-- ==== Sys2Proof/Word.lean ====
section
/-! DEFINITION. The word types of the machine. -/

namespace Sys2Proof

/-- The smallest addressable unit (20_memory.md R61). -/
abbrev Byte := BitVec 8

/-- A T32 halfword `hw1` or `hw2` (30_encoding.md R75). -/
abbrev Half := BitVec 16

/-- A 32-bit value: an address, a general register, an A32 word, or a T32 pair `hw1:hw2` (R36, R75). -/
abbrev Word := BitVec 32

/-- The contents of one D register (10_state.md R30). -/
abbrev DWord := BitVec 64

end Sys2Proof
end

