-- ==== Sys2Proof/Config.lean ====
section
/-! DEFINITION. What an implementation fixes (00_scope.md section 4) as plain data, the argument type of the enable
check, and the free values. -/

namespace Sys2Proof

/-- The answer of the enable check (00_scope.md R9). -/
inductive Access where
  | enabled    -- the call returns and execution continues
  | undefined  -- the instruction is UNDEFINED (60_exceptions.md R150)
  | hypTrap    -- the instruction is trapped to Hyp mode (R151)
deriving DecidableEq, Repr, Inhabited

/-- The PE modes of 60_exceptions.md R160 (general knowledge there). -/
inductive PeMode where
  | user | fiq | irq | supervisor | abort | undef | system | hyp | monitor
deriving DecidableEq, Repr, Inhabited

/-- The Security states of 60_exceptions.md R160 (general knowledge there). -/
inductive SecurityState where
  | secure | nonsecure
deriving DecidableEq, Repr, Inhabited

/-- The fields of CPACR that the spec names (60_exceptions.md R153; cp11 in 70_reset_and_hazards.md R177). -/
structure Cpacr where
  asedis : BitVec 1
  cp10 : BitVec 2
  cp11 : BitVec 2
deriving DecidableEq, Repr, Inhabited

/-- The fields of NSACR that the spec names (60_exceptions.md R153). -/
structure Nsacr where
  nsasedis : BitVec 1
  cp10 : BitVec 1
deriving DecidableEq, Repr, Inhabited

/-- The fields of HCPTR that the spec names (60_exceptions.md R153). -/
structure Hcptr where
  tase : BitVec 1
  tcp10 : BitVec 1
deriving DecidableEq, Repr, Inhabited

/-- The field of FPEXC that the spec names (60_exceptions.md R153). -/
structure Fpexc where
  en : BitVec 1
deriving DecidableEq, Repr, Inhabited

/-- `ControlState`: the registers, the Security state and the PE mode named as inputs of the enable check
(10_state.md R42, R43). -/
structure ControlState where
  cpacr : Cpacr
  nsacr : Nsacr
  hcptr : Hcptr
  fpexc : Fpexc
  security : SecurityState
  mode : PeMode
deriving DecidableEq, Repr, Inhabited

/-- Which instance of the OPEN parameter `FpSimdAccess` the machine has (00_scope.md R9, D5; log 2).
`given` carries "directly the two values" that are all the instruction sees of the control state
(70_reset_and_hazards.md R176); no step changes the control state, so it stands for every function whatever.
`outline` is the outline of 60_exceptions.md R153, with the two facts of the implementation it asks for.
PRESUMED, unsafe where a claim fixes `outline`. -/
inductive AccessRule where
  | given (advSimd fp : Access)
  | outline (el3Aarch32 el2Implemented : Bool)
deriving DecidableEq, Repr, Inhabited

/-- `SbzPolicy` (00_scope.md R13). -/
inductive SbzPolicy where
  | fault | ignore
deriving DecidableEq, Repr, Inhabited

/-- `FetchByteOrder` (20_memory.md R62). -/
inductive ByteOrder where
  | little | big
deriving DecidableEq, Repr, Inhabited

/-- The instance of the parameters `ExpandSimd` and `ExpandVfp` (00_scope.md R11, R12; log 27): the one the spec adopts, or
any other, which an opaque constant stands for. -/
inductive Expansion where
  | adopted  -- 30_encoding.md R85 for `ExpandSimd`, R87 for `ExpandVfp`
  | other    -- `Config.expandSimdOther`, `Config.expandVfpOther`
deriving DecidableEq, Repr, Inhabited

/-- The implementation parameters that are plain data (00_scope.md R16). They are carried by the state, which no step
changes, since the host's step takes no further argument (DESIGN CHOICE, safe: log 1). -/
structure Config where
  haveFP16 : Bool
  sbzPolicy : SbzPolicy
  condFailUndef : Bool
  fetchByteOrder : ByteOrder
  access : AccessRule
  expandSimd : Expansion
  expandVfp : Expansion
deriving DecidableEq, Repr, Inhabited

/-- The three behaviours permitted for a conditional half-precision word (00_scope.md R10). -/
inductive CuBehaviour where
  | undefined             -- "The instruction is UNDEFINED."
  | executeUnconditionally -- "executes as if it passes the Condition code check"
  | nop                   -- "executes as NOP"
deriving DecidableEq, Repr, Inhabited

/-- Free value: the n-bit element of an instance of `ExpandSimd` other than the adopted one, as a function of (op, cmode,
imm8) (00_scope.md R11, D6; log 27). -/
opaque Config.expandSimdOther : (n : Nat) → BitVec 1 → BitVec 4 → BitVec 8 → BitVec n

/-- Free value: an instance of `ExpandVfp` other than the adopted one, as a function of N and imm8 (00_scope.md R12, D7;
log 27). -/
opaque Config.expandVfpOther : (n : Nat) → BitVec 8 → BitVec n

/-- Free value: which of the three permitted behaviours the n-th free choice takes (00_scope.md R10, D9; log 4). -/
opaque Config.cuFp16Cond : Nat → CuBehaviour

/-- Free value: with `CondFailUndef` true, whether the n-th free choice takes the additionally admitted
`Fault Undefined` (40_vmov_imm_operation.md R121; log 5). -/
opaque Config.condFailUndefTaken : Nat → Bool

/-- Free value: whether CPACR.cp10 = '10' is treated as '11' (true) or as '00' (false), a function of the two arguments
of the enable check and of nothing else (60_exceptions.md R153, 00_scope.md R9; log 3). -/
opaque Config.cp10ReservedEnables : ControlState → Bool → Bool

end Sys2Proof
end

