-- ==== Sys2Proof/Syntax.lean ====
section
/-! DEFINITION. The instruction VMOV (immediate): one constructor per row of spec/opcode_table.json. -/

namespace Sys2Proof

/-- The instruction set state (10_state.md R37) and the set an encoding belongs to (00_scope.md R2). -/
inductive ISet where
  | a32 | t32
deriving DecidableEq, Repr, Inhabited

/-- Why a word is not VMOV (immediate): the outcome `NotThisInstruction` (00_scope.md R25), with its reason. -/
inductive DecodeReject where
  | seeVorrImmediate     -- `SEE "VORR (immediate)"` (30_encoding.md R93)
  | seeRelatedEncodings  -- `SEE "Related encodings"` (R94)
  | noPattern            -- no pattern of R91 or R92 matches
  | narrowT32            -- a 16-bit T32 instruction (R100)
  | truncated            -- fewer bytes than the instruction has
deriving DecidableEq, Repr

/-- VMOV (immediate). A constructor is named by its encoding (00_scope.md R2) and data type; `D`, `Q` end the 64-bit and
128-bit variants. Operands: `d` is `D:Vd` for the D and Q forms and for size 00, and `Vd:D` for the S forms (30_encoding.md
R89); `imm8` is `i:imm3:imm4` or `imm4H:imm4L` (R83, R84); `c` is the part of `cmode` the encoding leaves free (R81):
`cmode[2:1]` in A1/T1, `cmode[1]` in A3/T3, `cmode[0]` in the I32 form of A4/T4; `cond` is A2's condition field;
`sbz` is the pair of should-be-zero bits 7 and 5 (R97). -/
inductive Instr where
  | a1I32D (c : BitVec 2) (d : BitVec 5) (imm8 : BitVec 8)
  | a1I32Q (c : BitVec 2) (d : BitVec 5) (imm8 : BitVec 8)
  | a3I16D (c : BitVec 1) (d : BitVec 5) (imm8 : BitVec 8)
  | a3I16Q (c : BitVec 1) (d : BitVec 5) (imm8 : BitVec 8)
  | a4I32D (c : BitVec 1) (d : BitVec 5) (imm8 : BitVec 8)
  | a4I32Q (c : BitVec 1) (d : BitVec 5) (imm8 : BitVec 8)
  | a4I8D (d : BitVec 5) (imm8 : BitVec 8)
  | a4I8Q (d : BitVec 5) (imm8 : BitVec 8)
  | a4F32D (d : BitVec 5) (imm8 : BitVec 8)
  | a4F32Q (d : BitVec 5) (imm8 : BitVec 8)
  | a5I64D (d : BitVec 5) (imm8 : BitVec 8)
  | a5I64Q (d : BitVec 5) (imm8 : BitVec 8)
  | a2F16 (cond : BitVec 4) (d : BitVec 5) (imm8 : BitVec 8) (sbz : BitVec 2)
  | a2F32 (cond : BitVec 4) (d : BitVec 5) (imm8 : BitVec 8) (sbz : BitVec 2)
  | a2F64 (cond : BitVec 4) (d : BitVec 5) (imm8 : BitVec 8) (sbz : BitVec 2)
  | a2Size00 (cond : BitVec 4) (d : BitVec 5) (imm8 : BitVec 8) (sbz : BitVec 2)
  | t1I32D (c : BitVec 2) (d : BitVec 5) (imm8 : BitVec 8)
  | t1I32Q (c : BitVec 2) (d : BitVec 5) (imm8 : BitVec 8)
  | t3I16D (c : BitVec 1) (d : BitVec 5) (imm8 : BitVec 8)
  | t3I16Q (c : BitVec 1) (d : BitVec 5) (imm8 : BitVec 8)
  | t4I32D (c : BitVec 1) (d : BitVec 5) (imm8 : BitVec 8)
  | t4I32Q (c : BitVec 1) (d : BitVec 5) (imm8 : BitVec 8)
  | t4I8D (d : BitVec 5) (imm8 : BitVec 8)
  | t4I8Q (d : BitVec 5) (imm8 : BitVec 8)
  | t4F32D (d : BitVec 5) (imm8 : BitVec 8)
  | t4F32Q (d : BitVec 5) (imm8 : BitVec 8)
  | t5I64D (d : BitVec 5) (imm8 : BitVec 8)
  | t5I64Q (d : BitVec 5) (imm8 : BitVec 8)
  | t2F16 (d : BitVec 5) (imm8 : BitVec 8) (sbz : BitVec 2)
  | t2F32 (d : BitVec 5) (imm8 : BitVec 8) (sbz : BitVec 2)
  | t2F64 (d : BitVec 5) (imm8 : BitVec 8) (sbz : BitVec 2)
  | t2Size00 (d : BitVec 5) (imm8 : BitVec 8) (sbz : BitVec 2)
deriving DecidableEq, Repr

end Sys2Proof
end

