-- ==== Sys2Proof/Machine/State.lean ====
section
/-! DEFINITION. The state of the PE as plain data, the reasons a step can stop, and the start state. -/

namespace Sys2Proof.Machine

/-- The condition flags (10_state.md R38). -/
structure Flags where
  n : Bool
  z : Bool
  c : Bool
  v : Bool
deriving DecidableEq, Repr, Inhabited

/-- FPSCR (10_state.md R40): its fields `Len` and `Stride`, and the other 27 of its 32 bits, which nothing reads or
writes (R41; log 16). -/
structure Fpscr where
  len : BitVec 3
  stride : BitVec 2
  other : BitVec 27
deriving DecidableEq, Repr, Inhabited

/-- Memory: (address, byte) pairs, addresses strictly rising. An unlisted address holds no value (log 9). -/
abbrev Memory := List Host.Cell

/-- The architectural state, with two fields of the model's own, `config` and `choices`. -/
structure State where
  config : Config              -- the implementation parameters, which no step changes (log 1)
  simd : Vector DWord 32       -- D[0..31]; S and Q are views (10_state.md R30, R31, R32)
  gpr : Vector Word 15         -- R0 to R14 (R35; log 17); R15 is `pc`
  pc : Word                    -- the address of the instruction being executed (R36)
  iset : ISet                  -- the instruction set state (R37)
  flags : Flags                -- N, Z, C, V (R38)
  itstate : BitVec 8           -- ITSTATE (R39)
  fpscr : Fpscr                -- FPSCR (R40)
  ctl : ControlState           -- CPACR, NSACR, HCPTR, FPEXC, Security state, PE mode (R42, R43)
  dit : Bool                   -- the DIT bit (R44; log 18)
  mem : Memory                 -- the space instructions are fetched from (20_memory.md R61)
  choices : Nat                -- how many free choices have been consumed (log 4, log 5)
deriving DecidableEq, Repr

/-- The step's fault outcomes. Each precedes every write and leaves no successor state (60_exceptions.md R157; log 14). -/
inductive Fault where
  /-- `Fault Undefined` (R150): raised by a meaning for causes 1 to 4 and 6 of R152, or as a permitted choice of cause 5.
  Safe: the hardware goes on at a handler that the spec leaves out, so nothing can be proved past it. -/
  | undefined
  /-- `Fault HypTrap` (R151): raised by a meaning when the enable check traps (cause 7). Safe, as `undefined`. -/
  | hypTrap
  /-- `Fault Unpredictable` (30_encoding.md R97): raised by A2 and T2 meanings for a word with a should-be-zero bit set,
  under `SbzPolicy.fault` (cause 8). Safe: the spec gives such a word no meaning. -/
  | unpredictable
  /-- Raised by the fetch for a byte that nothing has written (log 9). Safe: such a byte holds no value. -/
  | fetchNoValue (address : Nat)
deriving DecidableEq, Repr

/-- The step's refusals: no meaning in this spec. -/
inductive Refusal where
  /-- An instruction whose meaning is not modelled yet, by its mnemonic: raised by an arm of `exec`. Safe. -/
  | notModelled (mnemonic : String)
  /-- `NotThisInstruction` (00_scope.md R25): raised by the step for a word that is not VMOV (immediate). Safe: the
  spec defines no step for it (log 15). -/
  | notThisInstruction (why : DecodeReject)
  /-- Raised by the step for a `pc` that is not a multiple of 4 (A32) or 2 (T32): such a state has no step (20_memory.md
  R63, D27; log 13). Safe. -/
  | misalignedPc
deriving DecidableEq, Repr

/-- The configuration of 95_test_vectors.md section 2, which State.reset carries (log 8). -/
def Config.testVectors : Config :=
  { haveFP16 := true, sbzPolicy := .fault, condFailUndef := false, fetchByteOrder := .little,
    access := .given .enabled .enabled, expandSimd := .adopted, expandVfp := .adopted }

/-- The start state. The spec states no reset value of anything (10_state.md R47, 70_reset_and_hazards.md R175): each
value is the model's, named in logs 6 to 9. DESIGN CHOICE and PRESUMED, unsafe. -/
def State.reset : State :=
  { config := Config.testVectors
    simd := Vector.replicate 32 0#64
    gpr := Vector.replicate 15 0#32
    pc := 0#32
    iset := .a32
    flags := { n := false, z := false, c := false, v := false }
    itstate := 0#8
    fpscr := { len := 0#3, stride := 0#2, other := 0#27 }
    ctl :=
      { cpacr := { asedis := 0#1, cp10 := 0#2, cp11 := 0#2 }
        nsacr := { nsasedis := 0#1, cp10 := 0#1 }
        hcptr := { tase := 0#1, tcp10 := 0#1 }
        fpexc := { en := 0#1 }
        security := .secure
        mode := .supervisor }
    dit := false
    mem := []
    choices := 0 }

end Sys2Proof.Machine
end

