-- ==== Sys2Proof/Machine/EnableCheck.lean ====
section
/-! DEFINITION. The enable check `CheckAdvSIMDOrVFPEnabled(TRUE, advsimd)`: the parameter `FpSimdAccess` (00_scope.md R9,
40_vmov_imm_operation.md R123) and the outline of 60_exceptions.md R153. -/

namespace Sys2Proof.Machine

/-- R153 with EL3 using AArch32 and the PE Non-secure: the two fields that NSACR overrides apply. -/
def nsacrApplies (el3Aarch32 : Bool) (ctl : ControlState) : Bool :=
  el3Aarch32 && ctl.security == .nonsecure

/-- `asedis` of R153: CPACR.ASEDIS, forced to 1 by NSACR.NSASEDIS. -/
def effectiveAsedis (el3Aarch32 : Bool) (ctl : ControlState) : BitVec 1 :=
  if nsacrApplies el3Aarch32 ctl = true ∧ ctl.nsacr.nsasedis = 0b1#1 then 0b1#1 else ctl.cpacr.asedis

/-- `cp10` of R153: CPACR.cp10, forced to '00' by NSACR.cp10 clear. -/
def effectiveCp10 (el3Aarch32 : Bool) (ctl : ControlState) : BitVec 2 :=
  if nsacrApplies el3Aarch32 ctl = true ∧ ctl.nsacr.cp10 = 0b0#1 then 0b00#2 else ctl.cpacr.cp10

/-- Whether `cp10` lets the mode through (the `case` of R153). The value '10' is CONSTRAINED UNPREDICTABLE there: a free
value (log 3). -/
def cp10Permits (cp10 : BitVec 2) (ctl : ControlState) (advsimd : Bool) : Bool :=
  if cp10 = 0b00#2 then false
  else if cp10 = 0b01#2 then ctl.mode != .user
  else if cp10 = 0b10#2 then Config.cp10ReservedEnables ctl advsimd
  else true

/-- The CPACR part of R153, made outside Hyp mode only. -/
def cpacrPermits (el3Aarch32 : Bool) (ctl : ControlState) (advsimd : Bool) : Bool :=
  if ctl.mode = .hyp then true
  else if advsimd = true ∧ effectiveAsedis el3Aarch32 ctl = 0b1#1 then false
  else cp10Permits (effectiveCp10 el3Aarch32 ctl) ctl advsimd

/-- The HCPTR part of R153, made in Non-secure state where EL2 is implemented: whether the access is trapped. -/
def hcptrTraps (el3Aarch32 el2Implemented : Bool) (ctl : ControlState) (advsimd : Bool) : Bool :=
  el2Implemented && ctl.security == .nonsecure &&
    ((advsimd && (ctl.hcptr.tase == 0b1#1 || (el3Aarch32 && ctl.nsacr.nsasedis == 0b1#1)))
      || (ctl.hcptr.tcp10 == 0b1#1 || (el3Aarch32 && ctl.nsacr.cp10 == 0b0#1)))

/-- The outline of the enable check (60_exceptions.md R153). PRESUMED, unsafe: "A model must not treat it as verified"
(log 2). -/
def accessOutline (el3Aarch32 el2Implemented : Bool) (ctl : ControlState) (advsimd : Bool) : Access :=
  if cpacrPermits el3Aarch32 ctl advsimd = false then .undefined
  else if ctl.fpexc.en = 0b0#1 then .undefined
  else if hcptrTraps el3Aarch32 el2Implemented ctl advsimd = true then
    if ctl.mode = .hyp then .undefined else .hypTrap
  else .enabled

/-- `FpSimdAccess(ctl, advsimd)` under the machine's instance of the parameter (00_scope.md R9; log 2). -/
def fpSimdAccess (cfg : Config) (ctl : ControlState) (advsimd : Bool) : Access :=
  match cfg.access with
  | .given advSimd fp => if advsimd then advSimd else fp
  | .outline el3Aarch32 el2Implemented => accessOutline el3Aarch32 el2Implemented ctl advsimd

end Sys2Proof.Machine
end

