-- ==== Sys2Proof/Machine/Flags.lean ====
section
/-! DEFINITION. The condition flags and ITSTATE: the condition check and the IT advance. No instruction writes a condition
flag (40_vmov_imm_operation.md R126). PRESUMED, unsafe, by the spec's D12 and D14 (log 22). -/

namespace Sys2Proof.Machine

/-- The condition that bits [3:1] of `cond` select (10_state.md R38). -/
def baseCondition (cond : BitVec 4) (f : Flags) : Bool :=
  if cond.extractLsb' 1 3 = 0b000#3 then f.z
  else if cond.extractLsb' 1 3 = 0b001#3 then f.c
  else if cond.extractLsb' 1 3 = 0b010#3 then f.n
  else if cond.extractLsb' 1 3 = 0b011#3 then f.v
  else if cond.extractLsb' 1 3 = 0b100#3 then f.c && !f.z
  else if cond.extractLsb' 1 3 = 0b101#3 then f.n == f.v
  else if cond.extractLsb' 1 3 = 0b110#3 then f.n == f.v && !f.z
  else true

/-- `ConditionPassed()` for the current condition `cond` (10_state.md R38). -/
def conditionPassed (cond : BitVec 4) (f : Flags) : Bool :=
  if cond.extractLsb' 0 1 = 0b1#1 ∧ cond ≠ 0b1111#4 then !(baseCondition cond f) else baseCondition cond f

/-- The condition "always", which every encoding without a condition has (40_vmov_imm_operation.md R122). -/
def condAlways : BitVec 4 := 0b1110#4

/-- `InITBlock()` (10_state.md R39). -/
def inITBlock (it : BitVec 8) : Bool := it.extractLsb' 0 4 != 0b0000#4

/-- The current condition of a T32 instruction (40_vmov_imm_operation.md R122). -/
def condT32 (it : BitVec 8) : BitVec 4 := if inITBlock it then it.extractLsb' 4 4 else condAlways

/-- The advance of ITSTATE after a T32 instruction (10_state.md R39). -/
def itAdvance (it : BitVec 8) : BitVec 8 :=
  if it.extractLsb' 0 3 = 0b000#3 then 0#8 else it.extractLsb' 5 3 ++ (it.extractLsb' 0 5 <<< 1)

/-- ITSTATE after an instruction that completes: advanced in T32 state, kept in A32 state (40_vmov_imm_operation.md
R127; log 20). -/
def itAfter (s : State) : BitVec 8 :=
  match s.iset with
  | .a32 => s.itstate
  | .t32 => itAdvance s.itstate

end Sys2Proof.Machine
end

