-- ==== Sys2Proof/Machine/Operands.lean ====
section
/-! DEFINITION. The register views S, D and Q, the expansion functions of the immediate, and the constants the decode
texts bind (30_encoding.md R83 to R90). -/

namespace Sys2Proof.Machine

/-! ### The register file (10_state.md R30 to R33) -/

/-- `D[n]`. Numbers above 31 name no register and read as zero: no decode text forms one (R125; log 26). -/
def readD (n : Nat) (s : State) : DWord := s.simd.getD n 0#64

/-- `D[n] <- v`; numbers above 31 name no register and the write is discarded (log 26). -/
def writeD (n : Nat) (v : DWord) (s : State) : State := { s with simd := s.simd.setIfInBounds n v }

/-- `S[n]`: the low half of `D[n div 2]` for n even, the high half for n odd (R31). R31 gives `S[n]` for n in 0..31 only;
that a number from 32 to 63 reaches `D[16..31]`, and one above 63 reads zero, is a DESIGN CHOICE (log 26): no instruction
forms it. -/
def readS (n : Nat) (s : State) : Word :=
  if n % 2 = 0 then (readD (n / 2) s).extractLsb' 0 32 else (readD (n / 2) s).extractLsb' 32 32

/-- `S[n] <- v`: the other half of `D[n div 2]` is kept (R31). A number from 32 to 63 writes a half of `D[16..31]`, and one
above 63 writes nothing: DESIGN CHOICE (log 26), no instruction forms it. -/
def writeS (n : Nat) (v : Word) (s : State) : State :=
  if n % 2 = 0 then writeD (n / 2) ((readD (n / 2) s).extractLsb' 32 32 ++ v) s
  else writeD (n / 2) (v ++ (readD (n / 2) s).extractLsb' 0 32) s

/-- `Q[n]` is `D[2n+1]:D[2n]` (R32). A number above 15 names no register and reads zero: DESIGN CHOICE (log 26). -/
def readQ (n : Nat) (s : State) : BitVec 128 := readD (2 * n + 1) s ++ readD (2 * n) s

/-! ### The expansion functions: parameters, whose adopted instances are PRESUMED, unsafe, by the spec's D6 and D7 (logs
22, 27) -/

/-- A 32-bit element in both words of a D register. -/
def replicate32 (e : Word) : DWord := e ++ e

/-- A 16-bit element in all four halfwords of a D register. -/
def replicate16 (e : Half) : DWord := e ++ e ++ e ++ e

/-- A byte in all eight bytes of a D register. -/
def replicate8 (e : Byte) : DWord := e ++ e ++ e ++ e ++ e ++ e ++ e ++ e

/-- Eight copies of bit `k` of `imm8`. -/
def byteOfBit (imm8 : Byte) (k : Nat) : Byte := BitVec.replicate 8 (imm8.extractLsb' k 1)

/-- The adopted instance of `ExpandSimd`: `AdvSIMDExpandImm(op, cmode, imm8)` (30_encoding.md R85), in the order of its case text. The pair (1, 1111), which
R94 redirects before the function is reached, falls under the last line. -/
def expandSimd (op : BitVec 1) (cmode : BitVec 4) (imm8 : BitVec 8) : DWord :=
  if cmode.extractLsb' 1 3 = 0b000#3 then replicate32 (0#24 ++ imm8)
  else if cmode.extractLsb' 1 3 = 0b001#3 then replicate32 (0#16 ++ imm8 ++ 0#8)
  else if cmode.extractLsb' 1 3 = 0b010#3 then replicate32 (0#8 ++ imm8 ++ 0#16)
  else if cmode.extractLsb' 1 3 = 0b011#3 then replicate32 (imm8 ++ 0#24)
  else if cmode.extractLsb' 1 3 = 0b100#3 then replicate16 (0#8 ++ imm8)
  else if cmode.extractLsb' 1 3 = 0b101#3 then replicate16 (imm8 ++ 0#8)
  else if cmode.extractLsb' 1 3 = 0b110#3 then
    if cmode.extractLsb' 0 1 = 0b0#1 then replicate32 (0#16 ++ imm8 ++ 0xFF#8)
    else replicate32 (0#8 ++ imm8 ++ 0xFFFF#16)
  else if cmode.extractLsb' 0 1 = 0b0#1 then
    if op = 0b0#1 then replicate8 imm8
    else byteOfBit imm8 7 ++ byteOfBit imm8 6 ++ byteOfBit imm8 5 ++ byteOfBit imm8 4
      ++ byteOfBit imm8 3 ++ byteOfBit imm8 2 ++ byteOfBit imm8 1 ++ byteOfBit imm8 0
  else replicate32 (imm8.extractLsb' 7 1 ++ ~~~(imm8.extractLsb' 6 1) ++ BitVec.replicate 5 (imm8.extractLsb' 6 1)
    ++ imm8.extractLsb' 0 6 ++ 0#19)

/-- Another instance of `ExpandSimd`: any element of the data type of (op, cmode), "replicated to fill the destination
register" (30_encoding.md R86, constraint 2; the data types by R81 and R107; log 27). -/
def expandSimdOther (op : BitVec 1) (cmode : BitVec 4) (imm8 : BitVec 8) : DWord :=
  if op = 0b1#1 then Config.expandSimdOther 64 op cmode imm8
  else if cmode = 0b1110#4 then replicate8 (Config.expandSimdOther 8 op cmode imm8)
  else if cmode.extractLsb' 2 2 = 0b10#2 then replicate16 (Config.expandSimdOther 16 op cmode imm8)
  else replicate32 (Config.expandSimdOther 32 op cmode imm8)

/-- `ExpandSimd(op, cmode, imm8)` under the machine's instance of the parameter (00_scope.md R11; log 27). -/
def simdExpand (cfg : Config) (op : BitVec 1) (cmode : BitVec 4) (imm8 : BitVec 8) : DWord :=
  match cfg.expandSimd with
  | .adopted => expandSimd op cmode imm8
  | .other => expandSimdOther op cmode imm8

/-- `VFPExpandImm(imm8, 16)`: 1 sign, 5 exponent and 10 fraction bits (30_encoding.md R87). -/
def expandVfp16 (imm8 : BitVec 8) : BitVec 16 :=
  imm8.extractLsb' 7 1 ++ (~~~(imm8.extractLsb' 6 1) ++ BitVec.replicate 2 (imm8.extractLsb' 6 1) ++ imm8.extractLsb' 4 2)
    ++ (imm8.extractLsb' 0 4 ++ 0#6)

/-- `VFPExpandImm(imm8, 32)`: 1 sign, 8 exponent and 23 fraction bits (R87). -/
def expandVfp32 (imm8 : BitVec 8) : BitVec 32 :=
  imm8.extractLsb' 7 1 ++ (~~~(imm8.extractLsb' 6 1) ++ BitVec.replicate 5 (imm8.extractLsb' 6 1) ++ imm8.extractLsb' 4 2)
    ++ (imm8.extractLsb' 0 4 ++ 0#19)

/-- `VFPExpandImm(imm8, 64)`: 1 sign, 11 exponent and 52 fraction bits (R87). -/
def expandVfp64 (imm8 : BitVec 8) : BitVec 64 :=
  imm8.extractLsb' 7 1 ++ (~~~(imm8.extractLsb' 6 1) ++ BitVec.replicate 8 (imm8.extractLsb' 6 1) ++ imm8.extractLsb' 4 2)
    ++ (imm8.extractLsb' 0 4 ++ 0#48)

/-- `ExpandVfp(imm8, 16)` under the machine's instance of the parameter (00_scope.md R12; log 27). -/
def vfpExpand16 (cfg : Config) (imm8 : BitVec 8) : BitVec 16 :=
  match cfg.expandVfp with
  | .adopted => expandVfp16 imm8
  | .other => Config.expandVfpOther 16 imm8

/-- `ExpandVfp(imm8, 32)` under the machine's instance of the parameter (R12). -/
def vfpExpand32 (cfg : Config) (imm8 : BitVec 8) : BitVec 32 :=
  match cfg.expandVfp with
  | .adopted => expandVfp32 imm8
  | .other => Config.expandVfpOther 32 imm8

/-- `ExpandVfp(imm8, 64)` under the machine's instance of the parameter (R12). -/
def vfpExpand64 (cfg : Config) (imm8 : BitVec 8) : BitVec 64 :=
  match cfg.expandVfp with
  | .adopted => expandVfp64 imm8
  | .other => Config.expandVfpOther 64 imm8

/-- `ExpandVfp(imm8, esize)`, `esize` one of 16, 32, 64, zero-extended to 64 bits. -/
def vfpExpand (cfg : Config) (esize : Nat) (imm8 : BitVec 8) : DWord :=
  if esize = 16 then (vfpExpand16 cfg imm8).setWidth 64
  else if esize = 32 then (vfpExpand32 cfg imm8).setWidth 64
  else vfpExpand64 cfg imm8

/-! ### The constants of the decode texts -/

/-- What a decode text binds (30_encoding.md R90): which enable check applies, the width of `imm`, `imm` (zero-extended
to 64 bits), the destination number, and how many D registers are written (0 where an S register is). -/
structure DecodeConstants where
  advsimd : Bool
  esize : Nat
  imm : DWord
  d : Nat
  regs : Nat
deriving DecidableEq, Repr

/-- The verdict of a decode text (00_scope.md R22, 40_vmov_imm_operation.md R121 step 2). -/
inductive Verdict where
  | undefined
  | unpredictable (k : DecodeConstants)
  | ok (k : DecodeConstants)
deriving DecidableEq, Repr

/-- The Advanced SIMD decode text after its two `SEE` clauses (41_vmov_imm_a32.md, head; `Vd<0>` is bit 0 of `D:Vd`). -/
def simdVerdict (cfg : Config) (op : BitVec 1) (cmode : BitVec 4) (q : BitVec 1) (d : BitVec 5) (imm8 : BitVec 8) : Verdict :=
  if q = 0b1#1 ∧ d.extractLsb' 0 1 = 0b1#1 then .undefined
  else .ok { advsimd := true, esize := 64, imm := simdExpand cfg op cmode imm8, d := d.toNat, regs := if q = 0b0#1 then 1 else 2 }

/-- The constants the decode text of A2 and T2 binds (41_vmov_imm_a32.md R131, 42_vmov_imm_t32.md R141); `d` is already
`D:Vd` for size 11 and `Vd:D` else (30_encoding.md R89). -/
def fpConstants (cfg : Config) (size : BitVec 2) (d : BitVec 5) (imm8 : BitVec 8) : DecodeConstants :=
  { advsimd := false, esize := 8 * 2 ^ size.toNat, imm := vfpExpand cfg (8 * 2 ^ size.toNat) imm8, d := d.toNat,
    regs := if size = 0b11#2 then 1 else 0 }

/-- The decode text of A2 (R131) and T2 (R141), which differ in the third line only: `conditional` is `cond != '1110'`
in A2 and `InITBlock()` in T2. -/
def fpVerdict (size : BitVec 2) (d : BitVec 5) (imm8 : BitVec 8) (conditional : Bool) (s : State) : Verdict :=
  if s.fpscr.len ≠ 0b000#3 ∨ s.fpscr.stride ≠ 0b00#2 then .undefined
  else if size = 0b00#2 ∨ (size = 0b01#2 ∧ s.config.haveFP16 = false) then .undefined
  else if size = 0b01#2 ∧ conditional = true then .unpredictable (fpConstants s.config size d imm8)
  else .ok (fpConstants s.config size d imm8)

end Sys2Proof.Machine
end

