-- ==== Sys2Proof/Machine/Ops.lean ====
section
/-! DEFINITION. The operation common to all ten encodings (40_vmov_imm_operation.md R120 to R127). -/

namespace Sys2Proof.Machine

/-- Taking an exception or a trap: the step ends in the fault outcome, with no successor state, before any write
(60_exceptions.md R150, R151, R157; D3, D4; log 14). No return from an exception is in scope (R158). -/
def raise (f : Fault) : Host.Outcome State Fault Refusal := .fault f

/-- The advance of every completed instruction: `pc + 4` modulo 2^32, and ITSTATE in T32 state (R127). -/
def advance (s : State) : State := { s with pc := s.pc + 4#32, itstate := itAfter s }

/-- The outcome `Nop` of R121. -/
def nop (s : State) : Host.Outcome State Fault Refusal := .next (advance s)

/-- The loop `for r = 0 to regs-1: D[d+r] <- imm` (R125). -/
def writeDs (d : Nat) (imm : DWord) : Nat → State → State
  | 0, s => s
  | regs + 1, s => writeD (d + regs) imm (writeDs d imm regs s)

/-- The write of the destination (R124, R125): an S register where `esize <= 32`, else `regs` D registers. -/
def writeDestination (k : DecodeConstants) (s : State) : State :=
  if k.esize ≤ 32 then writeS k.d (k.imm.setWidth 32) s else writeDs k.d k.imm k.regs s

/-- `Execute` of R121 step 6: the enable check (R123), the write, the advance. -/
def execute (k : DecodeConstants) (s : State) : Host.Outcome State Fault Refusal :=
  match fpSimdAccess s.config s.ctl k.advsimd with
  | .undefined => raise .undefined
  | .hypTrap => raise .hypTrap
  | .enabled => .next (advance (writeDestination k s))

/-- One free choice is consumed (logs 4 and 5). -/
def consumeChoice (s : State) : State := { s with choices := s.choices + 1 }

/-- R121 step 3: one of the three permitted behaviours, whatever the flags (R135, R145; log 4). -/
def constrainedUnpredictable (k : DecodeConstants) (s : State) : Host.Outcome State Fault Refusal :=
  match Config.cuFp16Cond s.choices with
  | .undefined => raise .undefined
  | .executeUnconditionally => execute k (consumeChoice s)
  | .nop => nop (consumeChoice s)

/-- R121 step 4 for a failed condition: `Nop`; with `CondFailUndef` true, `Fault Undefined` is admitted as well where the
decode text or the enable check would have said UNDEFINED (log 5). -/
def conditionFailed (wouldBeUndefined : Bool) (s : State) : Host.Outcome State Fault Refusal :=
  if s.config.condFailUndef && wouldBeUndefined then
    if Config.condFailUndefTaken s.choices then raise .undefined else nop (consumeChoice s)
  else nop s

/-- Steps 3 to 6 of R121, for the current condition `cond` and the verdict of the decode text. -/
def operate (cond : BitVec 4) (v : Verdict) (s : State) : Host.Outcome State Fault Refusal :=
  match v with
  | .unpredictable k => constrainedUnpredictable k s
  | .undefined => if conditionPassed cond s.flags then raise .undefined else conditionFailed true s
  | .ok k =>
    if conditionPassed cond s.flags then execute k s
    else conditionFailed (fpSimdAccess s.config s.ctl k.advsimd == .undefined) s

/-- A2 and T2: R121 with the test of the should-be-zero bits in step 1 (30_encoding.md R97, D10; log 23). -/
def operateSbz (sbz : BitVec 2) (cond : BitVec 4) (v : Verdict) (s : State) : Host.Outcome State Fault Refusal :=
  if sbz ≠ 0b00#2 ∧ s.config.sbzPolicy = .fault then raise .unpredictable else operate cond v s

end Sys2Proof.Machine
end

