-- ==== Sys2Proof/Machine/AdvSimdA32.lean ====
section
/-! DEFINITION. The meanings of the A32 Advanced SIMD encodings A1, A3, A4, A5 (41_vmov_imm_a32.md). Their condition is
"always" (40_vmov_imm_operation.md R122). -/

namespace Sys2Proof.Machine

/-- A1, `VMOV.I32 <Dd>, #<imm>` (R130): op 0, cmode 0xx0. -/
def execA1I32D (c : BitVec 2) (d : BitVec 5) (imm8 : BitVec 8) (s : State) : Host.Outcome State Fault Refusal :=
  operate condAlways (simdVerdict s.config 0b0#1 (0b0#1 ++ c ++ 0b0#1) 0b0#1 d imm8) s

/-- A1, `VMOV.I32 <Qd>, #<imm>` (R130). -/
def execA1I32Q (c : BitVec 2) (d : BitVec 5) (imm8 : BitVec 8) (s : State) : Host.Outcome State Fault Refusal :=
  operate condAlways (simdVerdict s.config 0b0#1 (0b0#1 ++ c ++ 0b0#1) 0b1#1 d imm8) s

/-- A3, `VMOV.I16 <Dd>, #<imm>` (R132): op 0, cmode 10x0. -/
def execA3I16D (c : BitVec 1) (d : BitVec 5) (imm8 : BitVec 8) (s : State) : Host.Outcome State Fault Refusal :=
  operate condAlways (simdVerdict s.config 0b0#1 (0b10#2 ++ c ++ 0b0#1) 0b0#1 d imm8) s

/-- A3, `VMOV.I16 <Qd>, #<imm>` (R132). -/
def execA3I16Q (c : BitVec 1) (d : BitVec 5) (imm8 : BitVec 8) (s : State) : Host.Outcome State Fault Refusal :=
  operate condAlways (simdVerdict s.config 0b0#1 (0b10#2 ++ c ++ 0b0#1) 0b1#1 d imm8) s

/-- A4, `VMOV.I32 <Dd>, #<imm>` (R133): op 0, cmode 110x. -/
def execA4I32D (c : BitVec 1) (d : BitVec 5) (imm8 : BitVec 8) (s : State) : Host.Outcome State Fault Refusal :=
  operate condAlways (simdVerdict s.config 0b0#1 (0b110#3 ++ c) 0b0#1 d imm8) s

/-- A4, `VMOV.I32 <Qd>, #<imm>` (R133). -/
def execA4I32Q (c : BitVec 1) (d : BitVec 5) (imm8 : BitVec 8) (s : State) : Host.Outcome State Fault Refusal :=
  operate condAlways (simdVerdict s.config 0b0#1 (0b110#3 ++ c) 0b1#1 d imm8) s

/-- A4, `VMOV.I8 <Dd>, #<imm>` (R133): op 0, cmode 1110. -/
def execA4I8D (d : BitVec 5) (imm8 : BitVec 8) (s : State) : Host.Outcome State Fault Refusal :=
  operate condAlways (simdVerdict s.config 0b0#1 0b1110#4 0b0#1 d imm8) s

/-- A4, `VMOV.I8 <Qd>, #<imm>` (R133). -/
def execA4I8Q (d : BitVec 5) (imm8 : BitVec 8) (s : State) : Host.Outcome State Fault Refusal :=
  operate condAlways (simdVerdict s.config 0b0#1 0b1110#4 0b1#1 d imm8) s

/-- A4, `VMOV.F32 <Dd>, #<imm>` (R133): op 0, cmode 1111; enabled by the Advanced SIMD check. -/
def execA4F32D (d : BitVec 5) (imm8 : BitVec 8) (s : State) : Host.Outcome State Fault Refusal :=
  operate condAlways (simdVerdict s.config 0b0#1 0b1111#4 0b0#1 d imm8) s

/-- A4, `VMOV.F32 <Qd>, #<imm>` (R133). -/
def execA4F32Q (d : BitVec 5) (imm8 : BitVec 8) (s : State) : Host.Outcome State Fault Refusal :=
  operate condAlways (simdVerdict s.config 0b0#1 0b1111#4 0b1#1 d imm8) s

/-- A5, `VMOV.I64 <Dd>, #<imm>` (R134): op 1, cmode 1110. -/
def execA5I64D (d : BitVec 5) (imm8 : BitVec 8) (s : State) : Host.Outcome State Fault Refusal :=
  operate condAlways (simdVerdict s.config 0b1#1 0b1110#4 0b0#1 d imm8) s

/-- A5, `VMOV.I64 <Qd>, #<imm>` (R134). -/
def execA5I64Q (d : BitVec 5) (imm8 : BitVec 8) (s : State) : Host.Outcome State Fault Refusal :=
  operate condAlways (simdVerdict s.config 0b1#1 0b1110#4 0b1#1 d imm8) s

end Sys2Proof.Machine
end

