-- ==== Sys2Proof/Machine/AdvSimdT32.lean ====
section
/-! DEFINITION. The meanings of the T32 Advanced SIMD encodings T1, T3, T4, T5 (42_vmov_imm_t32.md). Their condition comes
from ITSTATE (40_vmov_imm_operation.md R122). -/

namespace Sys2Proof.Machine

/-- T1, `VMOV.I32 <Dd>, #<imm>` (R140): op 0, cmode 0xx0. -/
def execT1I32D (c : BitVec 2) (d : BitVec 5) (imm8 : BitVec 8) (s : State) : Host.Outcome State Fault Refusal :=
  operate (condT32 s.itstate) (simdVerdict s.config 0b0#1 (0b0#1 ++ c ++ 0b0#1) 0b0#1 d imm8) s

/-- T1, `VMOV.I32 <Qd>, #<imm>` (R140). -/
def execT1I32Q (c : BitVec 2) (d : BitVec 5) (imm8 : BitVec 8) (s : State) : Host.Outcome State Fault Refusal :=
  operate (condT32 s.itstate) (simdVerdict s.config 0b0#1 (0b0#1 ++ c ++ 0b0#1) 0b1#1 d imm8) s

/-- T3, `VMOV.I16 <Dd>, #<imm>` (R142): op 0, cmode 10x0. -/
def execT3I16D (c : BitVec 1) (d : BitVec 5) (imm8 : BitVec 8) (s : State) : Host.Outcome State Fault Refusal :=
  operate (condT32 s.itstate) (simdVerdict s.config 0b0#1 (0b10#2 ++ c ++ 0b0#1) 0b0#1 d imm8) s

/-- T3, `VMOV.I16 <Qd>, #<imm>` (R142). -/
def execT3I16Q (c : BitVec 1) (d : BitVec 5) (imm8 : BitVec 8) (s : State) : Host.Outcome State Fault Refusal :=
  operate (condT32 s.itstate) (simdVerdict s.config 0b0#1 (0b10#2 ++ c ++ 0b0#1) 0b1#1 d imm8) s

/-- T4, `VMOV.I32 <Dd>, #<imm>` (R143): op 0, cmode 110x. -/
def execT4I32D (c : BitVec 1) (d : BitVec 5) (imm8 : BitVec 8) (s : State) : Host.Outcome State Fault Refusal :=
  operate (condT32 s.itstate) (simdVerdict s.config 0b0#1 (0b110#3 ++ c) 0b0#1 d imm8) s

/-- T4, `VMOV.I32 <Qd>, #<imm>` (R143). -/
def execT4I32Q (c : BitVec 1) (d : BitVec 5) (imm8 : BitVec 8) (s : State) : Host.Outcome State Fault Refusal :=
  operate (condT32 s.itstate) (simdVerdict s.config 0b0#1 (0b110#3 ++ c) 0b1#1 d imm8) s

/-- T4, `VMOV.I8 <Dd>, #<imm>` (R143): op 0, cmode 1110. -/
def execT4I8D (d : BitVec 5) (imm8 : BitVec 8) (s : State) : Host.Outcome State Fault Refusal :=
  operate (condT32 s.itstate) (simdVerdict s.config 0b0#1 0b1110#4 0b0#1 d imm8) s

/-- T4, `VMOV.I8 <Qd>, #<imm>` (R143). -/
def execT4I8Q (d : BitVec 5) (imm8 : BitVec 8) (s : State) : Host.Outcome State Fault Refusal :=
  operate (condT32 s.itstate) (simdVerdict s.config 0b0#1 0b1110#4 0b1#1 d imm8) s

/-- T4, `VMOV.F32 <Dd>, #<imm>` (R143): op 0, cmode 1111; enabled by the Advanced SIMD check. -/
def execT4F32D (d : BitVec 5) (imm8 : BitVec 8) (s : State) : Host.Outcome State Fault Refusal :=
  operate (condT32 s.itstate) (simdVerdict s.config 0b0#1 0b1111#4 0b0#1 d imm8) s

/-- T4, `VMOV.F32 <Qd>, #<imm>` (R143). -/
def execT4F32Q (d : BitVec 5) (imm8 : BitVec 8) (s : State) : Host.Outcome State Fault Refusal :=
  operate (condT32 s.itstate) (simdVerdict s.config 0b0#1 0b1111#4 0b1#1 d imm8) s

/-- T5, `VMOV.I64 <Dd>, #<imm>` (R144): op 1, cmode 1110. -/
def execT5I64D (d : BitVec 5) (imm8 : BitVec 8) (s : State) : Host.Outcome State Fault Refusal :=
  operate (condT32 s.itstate) (simdVerdict s.config 0b1#1 0b1110#4 0b0#1 d imm8) s

/-- T5, `VMOV.I64 <Qd>, #<imm>` (R144). -/
def execT5I64Q (d : BitVec 5) (imm8 : BitVec 8) (s : State) : Host.Outcome State Fault Refusal :=
  operate (condT32 s.itstate) (simdVerdict s.config 0b1#1 0b1110#4 0b1#1 d imm8) s

end Sys2Proof.Machine
end

