-- ==== Sys2Proof/Machine/FloatA32.lean ====
section
/-! DEFINITION. The meanings of the A32 floating-point encoding A2 (41_vmov_imm_a32.md R131, R135). The condition is the
`cond` field; half precision with a condition other than '1110' is CONSTRAINED UNPREDICTABLE. -/

namespace Sys2Proof.Machine

/-- A2, `VMOV.F16 <Sd>, #<imm>` (R131): size 01. -/
def execA2F16 (cond : BitVec 4) (d : BitVec 5) (imm8 : BitVec 8) (sbz : BitVec 2) (s : State) :
    Host.Outcome State Fault Refusal :=
  operateSbz sbz cond (fpVerdict 0b01#2 d imm8 (cond != 0b1110#4) s) s

/-- A2, `VMOV.F32 <Sd>, #<imm>` (R131): size 10. -/
def execA2F32 (cond : BitVec 4) (d : BitVec 5) (imm8 : BitVec 8) (sbz : BitVec 2) (s : State) :
    Host.Outcome State Fault Refusal :=
  operateSbz sbz cond (fpVerdict 0b10#2 d imm8 (cond != 0b1110#4) s) s

/-- A2, `VMOV.F64 <Dd>, #<imm>` (R131): size 11. -/
def execA2F64 (cond : BitVec 4) (d : BitVec 5) (imm8 : BitVec 8) (sbz : BitVec 2) (s : State) :
    Host.Outcome State Fault Refusal :=
  operateSbz sbz cond (fpVerdict 0b11#2 d imm8 (cond != 0b1110#4) s) s

/-- A2 with size 00, UNDEFINED by its decode text (R131, 30_encoding.md R95); a failed condition makes it a NOP before
that (60_exceptions.md R156). -/
def execA2Size00 (cond : BitVec 4) (d : BitVec 5) (imm8 : BitVec 8) (sbz : BitVec 2) (s : State) :
    Host.Outcome State Fault Refusal :=
  operateSbz sbz cond (fpVerdict 0b00#2 d imm8 (cond != 0b1110#4) s) s

end Sys2Proof.Machine
end

