-- ==== Sys2Proof/Machine/FloatT32.lean ====
section
/-! DEFINITION. The meanings of the T32 floating-point encoding T2 (42_vmov_imm_t32.md R141, R145). The condition comes
from ITSTATE; half precision inside an IT block is CONSTRAINED UNPREDICTABLE. -/

namespace Sys2Proof.Machine

/-- T2, `VMOV.F16 <Sd>, #<imm>` (R141): size 01. -/
def execT2F16 (d : BitVec 5) (imm8 : BitVec 8) (sbz : BitVec 2) (s : State) : Host.Outcome State Fault Refusal :=
  operateSbz sbz (condT32 s.itstate) (fpVerdict 0b01#2 d imm8 (inITBlock s.itstate) s) s

/-- T2, `VMOV.F32 <Sd>, #<imm>` (R141): size 10. -/
def execT2F32 (d : BitVec 5) (imm8 : BitVec 8) (sbz : BitVec 2) (s : State) : Host.Outcome State Fault Refusal :=
  operateSbz sbz (condT32 s.itstate) (fpVerdict 0b10#2 d imm8 (inITBlock s.itstate) s) s

/-- T2, `VMOV.F64 <Dd>, #<imm>` (R141): size 11. -/
def execT2F64 (d : BitVec 5) (imm8 : BitVec 8) (sbz : BitVec 2) (s : State) : Host.Outcome State Fault Refusal :=
  operateSbz sbz (condT32 s.itstate) (fpVerdict 0b11#2 d imm8 (inITBlock s.itstate) s) s

/-- T2 with size 00, UNDEFINED by its decode text (R141, 30_encoding.md R95); a failed condition makes it a NOP before
that (60_exceptions.md R156). -/
def execT2Size00 (d : BitVec 5) (imm8 : BitVec 8) (sbz : BitVec 2) (s : State) : Host.Outcome State Fault Refusal :=
  operateSbz sbz (condT32 s.itstate) (fpVerdict 0b00#2 d imm8 (inITBlock s.itstate) s) s

end Sys2Proof.Machine
end

