-- ==== Sys2Proof/Machine/Dispatch.lean ====
section
/-! DEFINITION. The meaning of each instruction: one arm per constructor. -/

namespace Sys2Proof.Machine

def exec (i : Instr) (s : State) : Host.Outcome State Fault Refusal :=
  match i with
  | .a1I32D c d imm8 => Sys2Proof.Machine.execA1I32D c d imm8 s
  | .a1I32Q c d imm8 => Sys2Proof.Machine.execA1I32Q c d imm8 s
  | .a3I16D c d imm8 => Sys2Proof.Machine.execA3I16D c d imm8 s
  | .a3I16Q c d imm8 => Sys2Proof.Machine.execA3I16Q c d imm8 s
  | .a4I32D c d imm8 => Sys2Proof.Machine.execA4I32D c d imm8 s
  | .a4I32Q c d imm8 => Sys2Proof.Machine.execA4I32Q c d imm8 s
  | .a4I8D d imm8 => Sys2Proof.Machine.execA4I8D d imm8 s
  | .a4I8Q d imm8 => Sys2Proof.Machine.execA4I8Q d imm8 s
  | .a4F32D d imm8 => Sys2Proof.Machine.execA4F32D d imm8 s
  | .a4F32Q d imm8 => Sys2Proof.Machine.execA4F32Q d imm8 s
  | .a5I64D d imm8 => Sys2Proof.Machine.execA5I64D d imm8 s
  | .a5I64Q d imm8 => Sys2Proof.Machine.execA5I64Q d imm8 s
  | .a2F16 cond d imm8 sbz => Sys2Proof.Machine.execA2F16 cond d imm8 sbz s
  | .a2F32 cond d imm8 sbz => Sys2Proof.Machine.execA2F32 cond d imm8 sbz s
  | .a2F64 cond d imm8 sbz => Sys2Proof.Machine.execA2F64 cond d imm8 sbz s
  | .a2Size00 cond d imm8 sbz => Sys2Proof.Machine.execA2Size00 cond d imm8 sbz s
  | .t1I32D c d imm8 => Sys2Proof.Machine.execT1I32D c d imm8 s
  | .t1I32Q c d imm8 => Sys2Proof.Machine.execT1I32Q c d imm8 s
  | .t3I16D c d imm8 => Sys2Proof.Machine.execT3I16D c d imm8 s
  | .t3I16Q c d imm8 => Sys2Proof.Machine.execT3I16Q c d imm8 s
  | .t4I32D c d imm8 => Sys2Proof.Machine.execT4I32D c d imm8 s
  | .t4I32Q c d imm8 => Sys2Proof.Machine.execT4I32Q c d imm8 s
  | .t4I8D d imm8 => Sys2Proof.Machine.execT4I8D d imm8 s
  | .t4I8Q d imm8 => Sys2Proof.Machine.execT4I8Q d imm8 s
  | .t4F32D d imm8 => Sys2Proof.Machine.execT4F32D d imm8 s
  | .t4F32Q d imm8 => Sys2Proof.Machine.execT4F32Q d imm8 s
  | .t5I64D d imm8 => Sys2Proof.Machine.execT5I64D d imm8 s
  | .t5I64Q d imm8 => Sys2Proof.Machine.execT5I64Q d imm8 s
  | .t2F16 d imm8 sbz => Sys2Proof.Machine.execT2F16 d imm8 sbz s
  | .t2F32 d imm8 sbz => Sys2Proof.Machine.execT2F32 d imm8 sbz s
  | .t2F64 d imm8 sbz => Sys2Proof.Machine.execT2F64 d imm8 sbz s
  | .t2Size00 d imm8 sbz => Sys2Proof.Machine.execT2Size00 d imm8 sbz s

end Sys2Proof.Machine
end

