-- ==== Sys2Proof/WellFormed.lean ====
section
/-! DEFINITION. Which terms of `Instr` stand for a word: A2's condition field is not '1111' (30_encoding.md R78, R98);
every other operand takes every value of its width (R80, R89). -/

namespace Sys2Proof

/-- Whether some word encodes the instruction. -/
def Instr.wellFormed : Instr → Bool
  | .a1I32D _ _ _ => true
  | .a1I32Q _ _ _ => true
  | .a3I16D _ _ _ => true
  | .a3I16Q _ _ _ => true
  | .a4I32D _ _ _ => true
  | .a4I32Q _ _ _ => true
  | .a4I8D _ _ => true
  | .a4I8Q _ _ => true
  | .a4F32D _ _ => true
  | .a4F32Q _ _ => true
  | .a5I64D _ _ => true
  | .a5I64Q _ _ => true
  | .a2F16 cond _ _ _ => cond != 0b1111#4
  | .a2F32 cond _ _ _ => cond != 0b1111#4
  | .a2F64 cond _ _ _ => cond != 0b1111#4
  | .a2Size00 cond _ _ _ => cond != 0b1111#4
  | .t1I32D _ _ _ => true
  | .t1I32Q _ _ _ => true
  | .t3I16D _ _ _ => true
  | .t3I16Q _ _ _ => true
  | .t4I32D _ _ _ => true
  | .t4I32Q _ _ _ => true
  | .t4I8D _ _ => true
  | .t4I8Q _ _ => true
  | .t4F32D _ _ => true
  | .t4F32Q _ _ => true
  | .t5I64D _ _ => true
  | .t5I64Q _ _ => true
  | .t2F16 _ _ _ => true
  | .t2F32 _ _ _ => true
  | .t2F64 _ _ _ => true
  | .t2Size00 _ _ _ => true

/-- The instruction set an instruction is an encoding of (00_scope.md R2). -/
def Instr.iset : Instr → ISet
  | .a1I32D _ _ _ | .a1I32Q _ _ _ | .a3I16D _ _ _ | .a3I16Q _ _ _ | .a4I32D _ _ _ | .a4I32Q _ _ _ => .a32
  | .a4I8D _ _ | .a4I8Q _ _ | .a4F32D _ _ | .a4F32Q _ _ | .a5I64D _ _ | .a5I64Q _ _ => .a32
  | .a2F16 _ _ _ _ | .a2F32 _ _ _ _ | .a2F64 _ _ _ _ | .a2Size00 _ _ _ _ => .a32
  | .t1I32D _ _ _ | .t1I32Q _ _ _ | .t3I16D _ _ _ | .t3I16Q _ _ _ | .t4I32D _ _ _ | .t4I32Q _ _ _ => .t32
  | .t4I8D _ _ | .t4I8Q _ _ | .t4F32D _ _ | .t4F32Q _ _ | .t5I64D _ _ | .t5I64Q _ _ => .t32
  | .t2F16 _ _ _ | .t2F32 _ _ _ | .t2F64 _ _ _ | .t2Size00 _ _ _ => .t32

end Sys2Proof
end

