-- ==== Sys2Proof/Decode.lean ====
section
/-! DEFINITION. The decoder of 30_encoding.md R91 and R92, total on any bytes and rejecting by name, and after it the
encoder, from the layouts of R76 to R79. The bit positions are the spec's general knowledge: PRESUMED, unsafe (log 21). -/

namespace Sys2Proof

/-! ### The decoder -/

/-- The four tests that R91 and R92 share, on the fields of an Advanced SIMD word: the two `SEE` clauses first (R93,
R94), then A5/T5, A1/T1, A3/T3 or A4/T4 by `op` and `cmode` (R81), then the variant by `Q`. -/
def decodeSimdFields (t : ISet) (op : BitVec 1) (cmode : BitVec 4) (q : BitVec 1) (d : BitVec 5) (imm8 : BitVec 8) :
    Except DecodeReject Instr :=
  if op = 0b0#1 ∧ cmode.extractLsb' 0 1 = 0b1#1 ∧ cmode.extractLsb' 2 2 ≠ 0b11#2 then
    .error .seeVorrImmediate
  else if op = 0b1#1 ∧ cmode ≠ 0b1110#4 then
    .error .seeRelatedEncodings
  else if op = 0b1#1 then
    match t with
    | .a32 => if q = 0b0#1 then .ok (.a5I64D d imm8) else .ok (.a5I64Q d imm8)
    | .t32 => if q = 0b0#1 then .ok (.t5I64D d imm8) else .ok (.t5I64Q d imm8)
  else if cmode.extractLsb' 3 1 = 0b0#1 then
    match t with
    | .a32 => if q = 0b0#1 then .ok (.a1I32D (cmode.extractLsb' 1 2) d imm8) else .ok (.a1I32Q (cmode.extractLsb' 1 2) d imm8)
    | .t32 => if q = 0b0#1 then .ok (.t1I32D (cmode.extractLsb' 1 2) d imm8) else .ok (.t1I32Q (cmode.extractLsb' 1 2) d imm8)
  else if cmode.extractLsb' 2 2 = 0b10#2 then
    match t with
    | .a32 => if q = 0b0#1 then .ok (.a3I16D (cmode.extractLsb' 1 1) d imm8) else .ok (.a3I16Q (cmode.extractLsb' 1 1) d imm8)
    | .t32 => if q = 0b0#1 then .ok (.t3I16D (cmode.extractLsb' 1 1) d imm8) else .ok (.t3I16Q (cmode.extractLsb' 1 1) d imm8)
  else if cmode.extractLsb' 1 1 = 0b0#1 then
    match t with
    | .a32 => if q = 0b0#1 then .ok (.a4I32D (cmode.extractLsb' 0 1) d imm8) else .ok (.a4I32Q (cmode.extractLsb' 0 1) d imm8)
    | .t32 => if q = 0b0#1 then .ok (.t4I32D (cmode.extractLsb' 0 1) d imm8) else .ok (.t4I32Q (cmode.extractLsb' 0 1) d imm8)
  else if cmode.extractLsb' 0 1 = 0b0#1 then
    match t with
    | .a32 => if q = 0b0#1 then .ok (.a4I8D d imm8) else .ok (.a4I8Q d imm8)
    | .t32 => if q = 0b0#1 then .ok (.t4I8D d imm8) else .ok (.t4I8Q d imm8)
  else
    match t with
    | .a32 => if q = 0b0#1 then .ok (.a4F32D d imm8) else .ok (.a4F32Q d imm8)
    | .t32 => if q = 0b0#1 then .ok (.t4F32D d imm8) else .ok (.t4F32Q d imm8)

/-- The destination number of an S form: `Vd:D` (30_encoding.md R89). -/
def regNumberS (dBit : BitVec 1) (vd : BitVec 4) : BitVec 5 := vd ++ dBit

/-- The destination number of a D or Q form: `D:Vd` (30_encoding.md R89). -/
def regNumberD (dBit : BitVec 1) (vd : BitVec 4) : BitVec 5 := dBit ++ vd

/-- The variant of A2 by its `size` field (30_encoding.md R91; `size == '00'` is still A2). -/
def decodeA2Fields (cond : BitVec 4) (dBit : BitVec 1) (vd : BitVec 4) (imm8 : BitVec 8) (size sbz : BitVec 2) : Instr :=
  if size = 0b00#2 then .a2Size00 cond (regNumberD dBit vd) imm8 sbz
  else if size = 0b01#2 then .a2F16 cond (regNumberS dBit vd) imm8 sbz
  else if size = 0b10#2 then .a2F32 cond (regNumberS dBit vd) imm8 sbz
  else .a2F64 cond (regNumberD dBit vd) imm8 sbz

/-- The variant of T2 by its `size` field (30_encoding.md R92). -/
def decodeT2Fields (dBit : BitVec 1) (vd : BitVec 4) (imm8 : BitVec 8) (size sbz : BitVec 2) : Instr :=
  if size = 0b00#2 then .t2Size00 (regNumberD dBit vd) imm8 sbz
  else if size = 0b01#2 then .t2F16 (regNumberS dBit vd) imm8 sbz
  else if size = 0b10#2 then .t2F32 (regNumberS dBit vd) imm8 sbz
  else .t2F64 (regNumberD dBit vd) imm8 sbz

/-- Decode of an A32 word (30_encoding.md R91). -/
def decodeA32 (w : Word) : Except DecodeReject Instr :=
  if w.extractLsb' 25 7 = 0b1111001#7 ∧ w.extractLsb' 23 1 = 0b1#1 ∧ w.extractLsb' 19 3 = 0b000#3
      ∧ w.extractLsb' 7 1 = 0b0#1 ∧ w.extractLsb' 4 1 = 0b1#1 then
    decodeSimdFields .a32 (w.extractLsb' 5 1) (w.extractLsb' 8 4) (w.extractLsb' 6 1)
      (regNumberD (w.extractLsb' 22 1) (w.extractLsb' 12 4))
      (w.extractLsb' 24 1 ++ w.extractLsb' 16 3 ++ w.extractLsb' 0 4)
  else if w.extractLsb' 28 4 ≠ 0b1111#4 ∧ w.extractLsb' 23 5 = 0b11101#5 ∧ w.extractLsb' 20 2 = 0b11#2
      ∧ w.extractLsb' 10 2 = 0b10#2 ∧ w.extractLsb' 6 1 = 0b0#1 ∧ w.extractLsb' 4 1 = 0b0#1 then
    .ok (decodeA2Fields (w.extractLsb' 28 4) (w.extractLsb' 22 1) (w.extractLsb' 12 4)
      (w.extractLsb' 16 4 ++ w.extractLsb' 0 4) (w.extractLsb' 8 2) (w.extractLsb' 7 1 ++ w.extractLsb' 5 1))
  else
    .error .noPattern

/-- Decode of a T32 halfword pair (30_encoding.md R92). -/
def decodeT32 (hw1 hw2 : Half) : Except DecodeReject Instr :=
  if hw1.extractLsb' 13 3 = 0b111#3 ∧ hw1.extractLsb' 7 5 = 0b11111#5 ∧ hw1.extractLsb' 3 3 = 0b000#3
      ∧ hw2.extractLsb' 7 1 = 0b0#1 ∧ hw2.extractLsb' 4 1 = 0b1#1 then
    decodeSimdFields .t32 (hw2.extractLsb' 5 1) (hw2.extractLsb' 8 4) (hw2.extractLsb' 6 1)
      (regNumberD (hw1.extractLsb' 6 1) (hw2.extractLsb' 12 4))
      (hw1.extractLsb' 12 1 ++ hw1.extractLsb' 0 3 ++ hw2.extractLsb' 0 4)
  else if hw1.extractLsb' 7 9 = 0b111011101#9 ∧ hw1.extractLsb' 4 2 = 0b11#2 ∧ hw2.extractLsb' 10 2 = 0b10#2
      ∧ hw2.extractLsb' 6 1 = 0b0#1 ∧ hw2.extractLsb' 4 1 = 0b0#1 then
    .ok (decodeT2Fields (hw1.extractLsb' 6 1) (hw2.extractLsb' 12 4)
      (hw1.extractLsb' 0 4 ++ hw2.extractLsb' 0 4) (hw2.extractLsb' 8 2) (hw2.extractLsb' 7 1 ++ hw2.extractLsb' 5 1))
  else
    .error .noPattern

/-- The decoder of one instruction set on a 32-bit string: an A32 word, or a T32 pair written `hw1:hw2` (R75). -/
def decodeWord (t : ISet) (w : Word) : Except DecodeReject Instr :=
  match t with
  | .a32 => decodeA32 w
  | .t32 => decodeT32 (w.extractLsb' 16 16) (w.extractLsb' 0 16)

/-- Whether a T32 halfword is the first half of a 32-bit instruction (30_encoding.md R100). -/
def isWideT32 (hw1 : Half) : Bool :=
  hw1.extractLsb' 11 5 == 0b11101#5 || hw1.extractLsb' 11 5 == 0b11110#5 || hw1.extractLsb' 11 5 == 0b11111#5

/-- A halfword from its two bytes, the lower address first (20_memory.md R62). -/
def halfOfBytes (order : ByteOrder) (b0 b1 : Byte) : Half :=
  match order with
  | .little => b1 ++ b0
  | .big => b0 ++ b1

/-- An A32 word from its four bytes, the lowest address first (20_memory.md R62). -/
def wordOfBytes (order : ByteOrder) (b0 b1 b2 b3 : Byte) : Word :=
  match order with
  | .little => b3 ++ b2 ++ b1 ++ b0
  | .big => b0 ++ b1 ++ b2 ++ b3

/-- The decoder on bytes as they stand in memory, the lowest address first: the instruction and the bytes after it. -/
def decodeBytes (t : ISet) (order : ByteOrder) (bytes : List Byte) : Except DecodeReject (Instr × List Byte) :=
  match t, bytes with
  | .a32, b0 :: b1 :: b2 :: b3 :: rest =>
    match decodeA32 (wordOfBytes order b0 b1 b2 b3) with
    | .ok i => .ok (i, rest)
    | .error r => .error r
  | .t32, b0 :: b1 :: more =>
    if isWideT32 (halfOfBytes order b0 b1) then
      match more with
      | b2 :: b3 :: rest =>
        match decodeT32 (halfOfBytes order b0 b1) (halfOfBytes order b2 b3) with
        | .ok i => .ok (i, rest)
        | .error r => .error r
      | _ => .error .truncated
    else .error .narrowT32
  | _, _ => .error .truncated

/-! ### The encoder -/

/-- Format ASIMD-A32 (30_encoding.md R76). -/
def encodeSimdA32 (op : BitVec 1) (cmode : BitVec 4) (q : BitVec 1) (d : BitVec 5) (imm8 : BitVec 8) : Word :=
  0b1111001#7 ++ imm8.extractLsb' 7 1 ++ 0b1#1 ++ d.extractLsb' 4 1 ++ 0b000#3 ++ imm8.extractLsb' 4 3
    ++ d.extractLsb' 0 4 ++ cmode ++ 0b0#1 ++ q ++ op ++ 0b1#1 ++ imm8.extractLsb' 0 4

/-- Format ASIMD-T32, as `hw1:hw2` (30_encoding.md R77). -/
def encodeSimdT32 (op : BitVec 1) (cmode : BitVec 4) (q : BitVec 1) (d : BitVec 5) (imm8 : BitVec 8) : Word :=
  0b111#3 ++ imm8.extractLsb' 7 1 ++ 0b11111#5 ++ d.extractLsb' 4 1 ++ 0b000#3 ++ imm8.extractLsb' 4 3
    ++ d.extractLsb' 0 4 ++ cmode ++ 0b0#1 ++ q ++ op ++ 0b1#1 ++ imm8.extractLsb' 0 4

/-- Format FP-A32 (30_encoding.md R78). -/
def encodeFpA32 (cond : BitVec 4) (size : BitVec 2) (dBit : BitVec 1) (vd : BitVec 4) (imm8 : BitVec 8) (sbz : BitVec 2) : Word :=
  cond ++ 0b11101#5 ++ dBit ++ 0b11#2 ++ imm8.extractLsb' 4 4 ++ vd ++ 0b10#2 ++ size
    ++ sbz.extractLsb' 1 1 ++ 0b0#1 ++ sbz.extractLsb' 0 1 ++ 0b0#1 ++ imm8.extractLsb' 0 4

/-- Format FP-T32, as `hw1:hw2` (30_encoding.md R79). -/
def encodeFpT32 (size : BitVec 2) (dBit : BitVec 1) (vd : BitVec 4) (imm8 : BitVec 8) (sbz : BitVec 2) : Word :=
  0b11101110#8 ++ 0b1#1 ++ dBit ++ 0b11#2 ++ imm8.extractLsb' 4 4 ++ vd ++ 0b10#2 ++ size
    ++ sbz.extractLsb' 1 1 ++ 0b0#1 ++ sbz.extractLsb' 0 1 ++ 0b0#1 ++ imm8.extractLsb' 0 4

/-- The words of an instruction: the A32 word, or the T32 pair `hw1:hw2` (30_encoding.md R75). -/
def encode : Instr → Word
  | .a1I32D c d imm8 => encodeSimdA32 0b0#1 (0b0#1 ++ c ++ 0b0#1) 0b0#1 d imm8
  | .a1I32Q c d imm8 => encodeSimdA32 0b0#1 (0b0#1 ++ c ++ 0b0#1) 0b1#1 d imm8
  | .a3I16D c d imm8 => encodeSimdA32 0b0#1 (0b10#2 ++ c ++ 0b0#1) 0b0#1 d imm8
  | .a3I16Q c d imm8 => encodeSimdA32 0b0#1 (0b10#2 ++ c ++ 0b0#1) 0b1#1 d imm8
  | .a4I32D c d imm8 => encodeSimdA32 0b0#1 (0b110#3 ++ c) 0b0#1 d imm8
  | .a4I32Q c d imm8 => encodeSimdA32 0b0#1 (0b110#3 ++ c) 0b1#1 d imm8
  | .a4I8D d imm8 => encodeSimdA32 0b0#1 0b1110#4 0b0#1 d imm8
  | .a4I8Q d imm8 => encodeSimdA32 0b0#1 0b1110#4 0b1#1 d imm8
  | .a4F32D d imm8 => encodeSimdA32 0b0#1 0b1111#4 0b0#1 d imm8
  | .a4F32Q d imm8 => encodeSimdA32 0b0#1 0b1111#4 0b1#1 d imm8
  | .a5I64D d imm8 => encodeSimdA32 0b1#1 0b1110#4 0b0#1 d imm8
  | .a5I64Q d imm8 => encodeSimdA32 0b1#1 0b1110#4 0b1#1 d imm8
  | .a2F16 cond d imm8 sbz => encodeFpA32 cond 0b01#2 (d.extractLsb' 0 1) (d.extractLsb' 1 4) imm8 sbz
  | .a2F32 cond d imm8 sbz => encodeFpA32 cond 0b10#2 (d.extractLsb' 0 1) (d.extractLsb' 1 4) imm8 sbz
  | .a2F64 cond d imm8 sbz => encodeFpA32 cond 0b11#2 (d.extractLsb' 4 1) (d.extractLsb' 0 4) imm8 sbz
  | .a2Size00 cond d imm8 sbz => encodeFpA32 cond 0b00#2 (d.extractLsb' 4 1) (d.extractLsb' 0 4) imm8 sbz
  | .t1I32D c d imm8 => encodeSimdT32 0b0#1 (0b0#1 ++ c ++ 0b0#1) 0b0#1 d imm8
  | .t1I32Q c d imm8 => encodeSimdT32 0b0#1 (0b0#1 ++ c ++ 0b0#1) 0b1#1 d imm8
  | .t3I16D c d imm8 => encodeSimdT32 0b0#1 (0b10#2 ++ c ++ 0b0#1) 0b0#1 d imm8
  | .t3I16Q c d imm8 => encodeSimdT32 0b0#1 (0b10#2 ++ c ++ 0b0#1) 0b1#1 d imm8
  | .t4I32D c d imm8 => encodeSimdT32 0b0#1 (0b110#3 ++ c) 0b0#1 d imm8
  | .t4I32Q c d imm8 => encodeSimdT32 0b0#1 (0b110#3 ++ c) 0b1#1 d imm8
  | .t4I8D d imm8 => encodeSimdT32 0b0#1 0b1110#4 0b0#1 d imm8
  | .t4I8Q d imm8 => encodeSimdT32 0b0#1 0b1110#4 0b1#1 d imm8
  | .t4F32D d imm8 => encodeSimdT32 0b0#1 0b1111#4 0b0#1 d imm8
  | .t4F32Q d imm8 => encodeSimdT32 0b0#1 0b1111#4 0b1#1 d imm8
  | .t5I64D d imm8 => encodeSimdT32 0b1#1 0b1110#4 0b0#1 d imm8
  | .t5I64Q d imm8 => encodeSimdT32 0b1#1 0b1110#4 0b1#1 d imm8
  | .t2F16 d imm8 sbz => encodeFpT32 0b01#2 (d.extractLsb' 0 1) (d.extractLsb' 1 4) imm8 sbz
  | .t2F32 d imm8 sbz => encodeFpT32 0b10#2 (d.extractLsb' 0 1) (d.extractLsb' 1 4) imm8 sbz
  | .t2F64 d imm8 sbz => encodeFpT32 0b11#2 (d.extractLsb' 4 1) (d.extractLsb' 0 4) imm8 sbz
  | .t2Size00 d imm8 sbz => encodeFpT32 0b00#2 (d.extractLsb' 4 1) (d.extractLsb' 0 4) imm8 sbz

/-- The two bytes of a halfword, the lower address first (20_memory.md R62). -/
def bytesOfHalf (order : ByteOrder) (h : Half) : List Byte :=
  match order with
  | .little => [h.extractLsb' 0 8, h.extractLsb' 8 8]
  | .big => [h.extractLsb' 8 8, h.extractLsb' 0 8]

/-- The four bytes of an instruction's 32-bit string as memory holds them, the lowest address first: an A32 word in its
byte order; a T32 pair with `hw1` first, each halfword in its byte order (20_memory.md R62). -/
def bytesOfWord (t : ISet) (order : ByteOrder) (w : Word) : List Byte :=
  match t with
  | .a32 =>
    match order with
    | .little => [w.extractLsb' 0 8, w.extractLsb' 8 8, w.extractLsb' 16 8, w.extractLsb' 24 8]
    | .big => [w.extractLsb' 24 8, w.extractLsb' 16 8, w.extractLsb' 8 8, w.extractLsb' 0 8]
  | .t32 => bytesOfHalf order (w.extractLsb' 16 16) ++ bytesOfHalf order (w.extractLsb' 0 16)

/-- An instruction's bytes as memory holds them. -/
def encodeBytes (order : ByteOrder) (i : Instr) : List Byte := bytesOfWord i.iset order (encode i)

/-! ### The opcode table's numbering -/

/-- The 32-bit string of a table row: `w`, where it fits in `nbits` and in 32 bits; no instruction is longer (R75). -/
def tableWord (nbits w : Nat) : Option Word :=
  if w < 2 ^ nbits ∧ w < 2 ^ 32 then some (BitVec.ofNat 32 w) else none

/-- The instruction set a table word is read in. The table's number does not say it: a word that is a T32 VMOV (immediate)
as `hw1:hw2` is read as T32 and every other word as A32. The sets share only the words of T2, which are A2 with `cond`
1110 (R79). DESIGN CHOICE, safe (log 12). -/
def tableISet (w : Word) : ISet :=
  match decodeWord .t32 w with
  | .ok _ => .t32
  | .error _ => .a32

/-- The instruction the decoder reads from a table row's word laid out in bytes (T32 rows are `hw1:hw2`, R91). -/
def decodeTableWord (nbits w : Nat) : Option Instr :=
  match tableWord nbits w with
  | none => none
  | some x =>
    match decodeBytes (tableISet x) .little (bytesOfWord (tableISet x) .little x) with
    | .ok (i, _) => some i
    | .error _ => none

end Sys2Proof
end

