-- ==== Sys2Proof/Machine/Memory.lean ====
section
/-! DEFINITION. Memory: reading and writing one byte, and its canonical form (20_memory.md R61). -/

namespace Sys2Proof.Machine

/-- The value at an address, none where nothing has written it (log 9). -/
def Memory.read : Memory → Nat → Option Byte
  | [], _ => none
  | (a', b') :: rest, a => if a = a' then some b' else Memory.read rest a

/-- One byte written, the addresses kept strictly rising. -/
def Memory.write : Memory → Nat → Byte → Memory
  | [], a, b => [(a, b)]
  | (a', b') :: rest, a, b =>
    if a < a' then (a, b) :: (a', b') :: rest
    else if a = a' then (a, b) :: rest
    else (a', b') :: Memory.write rest a b

/-- Bytes written at rising addresses from `pc` on, addresses modulo 2^32 (log 11). -/
def Memory.writeBytes (m : Memory) (pc : Word) : List Byte → Memory
  | [] => m
  | b :: rest => Memory.writeBytes (Memory.write m pc.toNat b) (pc + 1#32) rest

/-- Every listed address lies in [low, 2^32) and the addresses rise strictly. -/
def Memory.wfFrom : Nat → Memory → Bool
  | _, [] => true
  | low, (a, _) :: rest => decide (low ≤ a) && decide (a < 2 ^ 32) && Memory.wfFrom (a + 1) rest

/-- The canonical form: addresses inside the 32-bit space (R61), strictly rising. An unlisted address holds no value, so
no entry can equal what an unlisted address reads as. -/
def Memory.wf (m : Memory) : Bool := Memory.wfFrom 0 m

end Sys2Proof.Machine
end

