-- ==== Sys2Proof/Machine/Fetch.lean ====
section
/-! DEFINITION. Fetching an instruction's bytes (20_memory.md R62, R63, 30_encoding.md R100). -/

namespace Sys2Proof.Machine

/-- Whether `pc` is aligned for the instruction set: a multiple of 4 in A32, of 2 in T32 (20_memory.md R63). -/
def pcAligned (t : ISet) (pc : Word) : Bool :=
  match t with
  | .a32 => pc.extractLsb' 0 2 == 0b00#2
  | .t32 => pc.extractLsb' 0 1 == 0b0#1

/-- `n` bytes from `pc` on, addresses modulo 2^32 (log 11); a byte nothing has written faults (log 9). -/
def fetchBytes (m : Memory) : Nat → Word → Except Fault (List Byte)
  | 0, _ => .ok []
  | n + 1, pc =>
    match m.read pc.toNat with
    | none => .error (.fetchNoValue pc.toNat)
    | some b =>
      match fetchBytes m n (pc + 1#32) with
      | .ok bs => .ok (b :: bs)
      | .error f => .error f

/-- How many bytes the instruction at `pc` has: 4 in A32; in T32 2 or 4, by its first halfword (30_encoding.md R100). -/
def lengthT32 (order : ByteOrder) (bytes : List Byte) : Nat :=
  match bytes with
  | b0 :: b1 :: _ => if isWideT32 (halfOfBytes order b0 b1) then 4 else 2
  | _ => 2

/-- The bytes of the instruction at `pc`. -/
def fetch (s : State) : Except Fault (List Byte) :=
  match s.iset with
  | .a32 => fetchBytes s.mem 4 s.pc
  | .t32 =>
    match fetchBytes s.mem 2 s.pc with
    | .error f => .error f
    | .ok first => fetchBytes s.mem (lengthT32 s.config.fetchByteOrder first) s.pc

/-- `pc` rounded down to the alignment of the instruction set; an aligned `pc` is kept. -/
def alignPc (t : ISet) (pc : Word) : Word :=
  match t with
  | .a32 => pc &&& 0xFFFFFFFC#32
  | .t32 => pc &&& 0xFFFFFFFE#32

/-- The state with a table word's bytes at `pc`, in the instruction set the word is read in (log 12). -/
def placeWord (s : State) (w : Word) : State :=
  { s with
    iset := tableISet w
    pc := alignPc (tableISet w) s.pc
    mem := Memory.writeBytes s.mem (alignPc (tableISet w) s.pc) (bytesOfWord (tableISet w) s.config.fetchByteOrder w) }

end Sys2Proof.Machine
end

