-- ==== Sys2Proof/Machine/Step.lean ====
section
/-! DEFINITION. One step: the instruction at `pc` is fetched, decoded and executed (40_vmov_imm_operation.md R121). -/

namespace Sys2Proof.Machine

/-- One step. A misaligned `pc` has no step (20_memory.md R63); a word that is not VMOV (immediate) has none either
(00_scope.md R25); else the outcome is `exec`'s, which advances `pc` and ITSTATE itself (R127). -/
def step (s : State) : Host.Outcome State Fault Refusal :=
  if pcAligned s.iset s.pc then
    match fetch s with
    | .error f => .fault f
    | .ok bytes =>
      match decodeBytes s.iset s.config.fetchByteOrder bytes with
      | .error r => .refused (.notThisInstruction r)
      | .ok (i, _) => exec i s
  else .refused .misalignedPc

/-- The state with the table word `w` stored where `step` fetches its next instruction (log 12); a number that is no
32-bit word leaves the state alone. -/
def State.withFetchWord (s : State) (nbits w : Nat) : State :=
  match tableWord nbits w with
  | none => s
  | some x => placeWord s x

end Sys2Proof.Machine
end

