-- ==== Sys2Proof/Machine/Asm.lean ====
section
/-! DEFINITION. The assembler syntax (30_encoding.md section 5, R101 to R111): the line an instruction is written as, and
which instructions a line may be assembled to. -/

namespace Sys2Proof.Machine

/-- The data types of the syntax lines (R101). -/
inductive DataType where
  | i8 | i16 | i32 | i64 | f16 | f32 | f64
deriving DecidableEq, Repr

/-- `<Sd>`, `<Dd>`, `<Qd>` (R104 to R106). -/
inductive RegName where
  | s (n : BitVec 5)
  | d (n : BitVec 5)
  | q (n : BitVec 4)
deriving DecidableEq, Repr

/-- `<q>` (R103): nothing, `.N` or `.W`; not encoded. -/
inductive Qualifier where
  | omitted | narrow | wide
deriving DecidableEq, Repr

/-- `<imm>`: one element of an integer type, zero-extended (R108), or a floating-point constant as 128 times its value,
which is an integer (R88, R109). -/
inductive AsmImm where
  | int (e : DWord)
  | float (times128 : Int)
deriving DecidableEq, Repr

/-- `VMOV<c><q>.<dt> <reg>, #<imm>` (R101). `cond` is '1110' where `<c>` is AL or omitted (R102). -/
structure AsmLine where
  cond : BitVec 4
  qualifier : Qualifier
  dt : DataType
  dest : RegName
  imm : AsmImm
deriving DecidableEq, Repr

/-- Field `D` of a destination name (R104 to R106). -/
def RegName.dBit : RegName → BitVec 1
  | .s n => n.extractLsb' 0 1
  | .d n => n.extractLsb' 4 1
  | .q n => n.extractLsb' 3 1

/-- Field `Vd` of a destination name (R104 to R106): a Q register's `D:Vd` is twice its number. -/
def RegName.vd : RegName → BitVec 4
  | .s n => n.extractLsb' 1 4
  | .d n => n.extractLsb' 0 4
  | .q n => n.extractLsb' 0 3 ++ 0b0#1

/-- 128 times the number that a floating-point `imm8 = abcdefgh` denotes (R88):
(-1)^a * (16 + UInt(efgh)) * 2^UInt(NOT(b):c:d). -/
def vfpTimes128 (imm8 : BitVec 8) : Int :=
  let magnitude : Int := (16 + (imm8.extractLsb' 0 4).toNat) * 2 ^ (~~~(imm8.extractLsb' 6 1) ++ imm8.extractLsb' 4 2).toNat
  if imm8.extractLsb' 7 1 = 0b1#1 then -magnitude else magnitude

/-- The constant of `n` bits that the line of an Advanced SIMD form gives, zero-extended: the element that `ExpandSimd`
replicates to fill the destination (R108, R86; log 27). -/
def asmElement (cfg : Config) (n : Nat) (op : BitVec 1) (cmode : BitVec 4) (imm8 : BitVec 8) : DWord :=
  ((simdExpand cfg op cmode imm8).setWidth n).setWidth 64

/-- The I64 element of A5/T5 (R86): byte k is FF where bit k of `imm8` is set. -/
def elementByteMask (imm8 : BitVec 8) : DWord :=
  byteOfBit imm8 7 ++ byteOfBit imm8 6 ++ byteOfBit imm8 5 ++ byteOfBit imm8 4
    ++ byteOfBit imm8 3 ++ byteOfBit imm8 2 ++ byteOfBit imm8 1 ++ byteOfBit imm8 0

/-- The line of a 64-bit variant. No line has the condition '1111' (R102). -/
def lineD (cond : BitVec 4) (dt : DataType) (d : BitVec 5) (imm : AsmImm) : Option AsmLine :=
  if cond = 0b1111#4 then none else some { cond := cond, qualifier := .omitted, dt := dt, dest := .d d, imm := imm }

/-- The line of a 128-bit variant: none where `D:Vd` is odd, which names no Q register (R105). -/
def lineQ (cond : BitVec 4) (dt : DataType) (d : BitVec 5) (imm : AsmImm) : Option AsmLine :=
  if cond = 0b1111#4 ∨ d.extractLsb' 0 1 = 0b1#1 then none
  else some { cond := cond, qualifier := .omitted, dt := dt, dest := .q (d.extractLsb' 1 4), imm := imm }

/-- The line of a scalar variant: none where a should-be-zero bit is set, which no assembler writes (R97). -/
def lineScalar (cond : BitVec 4) (dt : DataType) (dest : RegName) (imm8 : BitVec 8) (sbz : BitVec 2) : Option AsmLine :=
  if cond = 0b1111#4 ∨ sbz ≠ 0b00#2 then none
  else some { cond := cond, qualifier := .omitted, dt := dt, dest := dest, imm := .float (vfpTimes128 imm8) }

/-- The line of a half-precision form: none where it is conditional, which an assembler refuses (R102). -/
def lineHalf (conditional : Bool) (cond : BitVec 4) (d : BitVec 5) (imm8 : BitVec 8) (sbz : BitVec 2) : Option AsmLine :=
  if conditional then none else lineScalar cond .f16 (.s d) imm8 sbz

/-- The syntax line of an instruction, `it` being ITSTATE, from which a T32 form has its condition (R102). A floating-point
literal is the number of R88, whatever the instances of `ExpandSimd` and `ExpandVfp` (R109; log 24). The F16 line exists
whatever `HaveFP16` is, since R101 does not say whether it does without FEAT_FP16: DESIGN CHOICE (log 24). None for the
words that are UNDEFINED for every state (R95) and those an assembler does not write. -/
def disassemble (cfg : Config) (it : BitVec 8) : Instr → Option AsmLine
  | .a1I32D c d imm8 => lineD condAlways .i32 d (.int (asmElement cfg 32 0b0#1 (0b0#1 ++ c ++ 0b0#1) imm8))
  | .a1I32Q c d imm8 => lineQ condAlways .i32 d (.int (asmElement cfg 32 0b0#1 (0b0#1 ++ c ++ 0b0#1) imm8))
  | .a3I16D c d imm8 => lineD condAlways .i16 d (.int (asmElement cfg 16 0b0#1 (0b10#2 ++ c ++ 0b0#1) imm8))
  | .a3I16Q c d imm8 => lineQ condAlways .i16 d (.int (asmElement cfg 16 0b0#1 (0b10#2 ++ c ++ 0b0#1) imm8))
  | .a4I32D c d imm8 => lineD condAlways .i32 d (.int (asmElement cfg 32 0b0#1 (0b110#3 ++ c) imm8))
  | .a4I32Q c d imm8 => lineQ condAlways .i32 d (.int (asmElement cfg 32 0b0#1 (0b110#3 ++ c) imm8))
  | .a4I8D d imm8 => lineD condAlways .i8 d (.int (asmElement cfg 8 0b0#1 0b1110#4 imm8))
  | .a4I8Q d imm8 => lineQ condAlways .i8 d (.int (asmElement cfg 8 0b0#1 0b1110#4 imm8))
  | .a4F32D d imm8 => lineD condAlways .f32 d (.float (vfpTimes128 imm8))
  | .a4F32Q d imm8 => lineQ condAlways .f32 d (.float (vfpTimes128 imm8))
  | .a5I64D d imm8 => lineD condAlways .i64 d (.int (asmElement cfg 64 0b1#1 0b1110#4 imm8))
  | .a5I64Q d imm8 => lineQ condAlways .i64 d (.int (asmElement cfg 64 0b1#1 0b1110#4 imm8))
  | .a2F16 cond d imm8 sbz => lineHalf (cond != condAlways) cond d imm8 sbz
  | .a2F32 cond d imm8 sbz => lineScalar cond .f32 (.s d) imm8 sbz
  | .a2F64 cond d imm8 sbz => lineScalar cond .f64 (.d d) imm8 sbz
  | .a2Size00 _ _ _ _ => none
  | .t1I32D c d imm8 => lineD (condT32 it) .i32 d (.int (asmElement cfg 32 0b0#1 (0b0#1 ++ c ++ 0b0#1) imm8))
  | .t1I32Q c d imm8 => lineQ (condT32 it) .i32 d (.int (asmElement cfg 32 0b0#1 (0b0#1 ++ c ++ 0b0#1) imm8))
  | .t3I16D c d imm8 => lineD (condT32 it) .i16 d (.int (asmElement cfg 16 0b0#1 (0b10#2 ++ c ++ 0b0#1) imm8))
  | .t3I16Q c d imm8 => lineQ (condT32 it) .i16 d (.int (asmElement cfg 16 0b0#1 (0b10#2 ++ c ++ 0b0#1) imm8))
  | .t4I32D c d imm8 => lineD (condT32 it) .i32 d (.int (asmElement cfg 32 0b0#1 (0b110#3 ++ c) imm8))
  | .t4I32Q c d imm8 => lineQ (condT32 it) .i32 d (.int (asmElement cfg 32 0b0#1 (0b110#3 ++ c) imm8))
  | .t4I8D d imm8 => lineD (condT32 it) .i8 d (.int (asmElement cfg 8 0b0#1 0b1110#4 imm8))
  | .t4I8Q d imm8 => lineQ (condT32 it) .i8 d (.int (asmElement cfg 8 0b0#1 0b1110#4 imm8))
  | .t4F32D d imm8 => lineD (condT32 it) .f32 d (.float (vfpTimes128 imm8))
  | .t4F32Q d imm8 => lineQ (condT32 it) .f32 d (.float (vfpTimes128 imm8))
  | .t5I64D d imm8 => lineD (condT32 it) .i64 d (.int (asmElement cfg 64 0b1#1 0b1110#4 imm8))
  | .t5I64Q d imm8 => lineQ (condT32 it) .i64 d (.int (asmElement cfg 64 0b1#1 0b1110#4 imm8))
  | .t2F16 d imm8 sbz => lineHalf (inITBlock it) (condT32 it) d imm8 sbz
  | .t2F32 d imm8 sbz => lineScalar (condT32 it) .f32 (.s d) imm8 sbz
  | .t2F64 d imm8 sbz => lineScalar (condT32 it) .f64 (.d d) imm8 sbz
  | .t2Size00 _ _ _ => none

/-- Whether the line may be assembled to the instruction: `.N` is an error and `.W` changes nothing (R103). -/
def assembles (cfg : Config) (it : BitVec 8) (l : AsmLine) (i : Instr) : Bool :=
  l.qualifier != .narrow && disassemble cfg it i == some { l with qualifier := .omitted }

/-- `AsmPick` (R111, D25), left open: any function that picks, where some instruction of the set fits the line, one that
does. Not used in execution. -/
def asmPickLegal (cfg : Config) (pick : ISet → BitVec 8 → AsmLine → Option Instr) : Prop :=
  ∀ t it l,
    match pick t it l with
    | some i => i.iset = t ∧ assembles cfg it l i = true
    | none => ∀ i : Instr, i.iset = t → assembles cfg it l i = false

/-! ### The line as text -/

/-- The condition suffixes (R102). Where R102 gives two spellings the text has one, CS and not HS, CC and not LO, nothing and
not AL; nothing stands for '1111' too, which no line has: DESIGN CHOICE (log 24). -/
def condSuffix (cond : BitVec 4) : String :=
  ["EQ", "NE", "CS", "CC", "MI", "PL", "VS", "VC", "HI", "LS", "GE", "LT", "GT", "LE", "", ""].getD cond.toNat ""

/-- The data type as written. -/
def DataType.text : DataType → String
  | .i8 => "I8" | .i16 => "I16" | .i32 => "I32" | .i64 => "I64" | .f16 => "F16" | .f32 => "F32" | .f64 => "F64"

/-- The hexadecimal digits of an element of the type: its full width, leading zeros kept. DESIGN CHOICE (log 24). -/
def DataType.hexDigits : DataType → Nat
  | .i8 => 2 | .i16 => 4 | .i32 => 8 | .i64 => 16 | .f16 => 4 | .f32 => 8 | .f64 => 16

/-- The register name as written, in small letters as 95_test_vectors.md writes it: DESIGN CHOICE (log 24). -/
def RegName.text : RegName → String
  | .s n => "s" ++ n.toNat.repr
  | .d n => "d" ++ n.toNat.repr
  | .q n => "q" ++ n.toNat.repr

/-- The qualifier as written (R103). -/
def Qualifier.text : Qualifier → String
  | .omitted => "" | .narrow => ".N" | .wide => ".W"

/-- `n` hexadecimal digits of a number, the least significant last. -/
def hexText (value : Nat) : Nat → String
  | 0 => ""
  | n + 1 => hexText (value / 16) n ++ ["0", "1", "2", "3", "4", "5", "6", "7", "8", "9", "A", "B", "C", "D", "E", "F"].getD (value % 16) ""

/-- At most `n` decimal digits of `rest` 128ths, stopping where nothing is left. -/
def decimalText (rest : Nat) : Nat → String
  | 0 => ""
  | n + 1 => if rest = 0 then "" else (rest * 10 / 128).repr ++ decimalText (rest * 10 % 128) n

/-- The immediate as written: an element in hexadecimal, or an exact decimal literal with at least one digit after the point
(R108, R109). The number format is a DESIGN CHOICE (log 24). -/
def AsmImm.text (dt : DataType) : AsmImm → String
  | .int e => "0x" ++ hexText e.toNat dt.hexDigits
  | .float v =>
    (if v < 0 then "-" else "") ++ (v.natAbs / 128).repr ++ "." ++
      (if v.natAbs % 128 = 0 then "0" else decimalText (v.natAbs % 128) 7)

/-- The line as written (R101). -/
def AsmLine.text (l : AsmLine) : String :=
  "VMOV" ++ condSuffix l.cond ++ l.qualifier.text ++ "." ++ l.dt.text ++ " " ++ l.dest.text ++ ", #" ++ l.imm.text l.dt

end Sys2Proof.Machine
end

