-- ==== Sys2Proof/Safety.lean ====
section
/-! DEFINITION. What counts as a well-formed state, in the terms that claims use. -/

namespace Sys2Proof.Machine

/-- The invariant of the start state's premises (70_reset_and_hazards.md R176): memory in its canonical form, `pc` aligned
for the instruction set (20_memory.md R63), ITSTATE zero in A32 state (10_state.md R39). -/
abbrev State.legal (s : State) : Prop :=
  s.mem.wf = true ∧ pcAligned s.iset s.pc = true ∧ (s.iset = .a32 → s.itstate = 0#8)

/-- The enable check lets the access through: "in model terms FpSimdAccess(ctl, advsimd) = Enabled"
(70_reset_and_hazards.md R177). -/
abbrev State.enabled (s : State) (advsimd : Bool) : Prop := fpSimdAccess s.config s.ctl advsimd = .enabled

/-- FPSCR.Len and FPSCR.Stride are zero, as A2 and T2 need (R177). -/
abbrev State.fpscrZero (s : State) : Prop := s.fpscr.len = 0#3 ∧ s.fpscr.stride = 0#2

/-- The word's should-be-zero bits do not stop it: they are zero, or the policy ignores them (30_encoding.md R97). -/
abbrev State.sbzAccepted (s : State) (sbz : BitVec 2) : Prop := sbz = 0#2 ∨ s.config.sbzPolicy = .ignore

/-- The current condition of a T32 instruction passes (40_vmov_imm_operation.md R122). -/
abbrev State.condT32Passes (s : State) : Prop := conditionPassed (condT32 s.itstate) s.flags = true

/-- The second argument of the enable check: false for A2 and T2, true for every Advanced SIMD encoding (30_encoding.md
R90). -/
def advsimdOf : Instr → Bool
  | .a2F16 _ _ _ _ | .a2F32 _ _ _ _ | .a2F64 _ _ _ _ | .a2Size00 _ _ _ _ => false
  | .t2F16 _ _ _ | .t2F32 _ _ _ | .t2F64 _ _ _ | .t2Size00 _ _ _ => false
  | .a1I32D _ _ _ | .a1I32Q _ _ _ | .a3I16D _ _ _ | .a3I16Q _ _ _ | .a4I32D _ _ _ | .a4I32Q _ _ _ => true
  | .a4I8D _ _ | .a4I8Q _ _ | .a4F32D _ _ | .a4F32Q _ _ | .a5I64D _ _ | .a5I64Q _ _ => true
  | .t1I32D _ _ _ | .t1I32Q _ _ _ | .t3I16D _ _ _ | .t3I16Q _ _ _ | .t4I32D _ _ _ | .t4I32Q _ _ _ => true
  | .t4I8D _ _ | .t4I8Q _ _ | .t4F32D _ _ | .t4F32Q _ _ | .t5I64D _ _ | .t5I64Q _ _ => true

/-- The should-be-zero bits of an instruction; only A2 and T2 have them (30_encoding.md R97). -/
def sbzOf : Instr → BitVec 2
  | .a2F16 _ _ _ z | .a2F32 _ _ _ z | .a2F64 _ _ _ z | .a2Size00 _ _ _ z => z
  | .t2F16 _ _ z | .t2F32 _ _ z | .t2F64 _ _ z | .t2Size00 _ _ z => z
  | .a1I32D _ _ _ | .a1I32Q _ _ _ | .a3I16D _ _ _ | .a3I16Q _ _ _ | .a4I32D _ _ _ | .a4I32Q _ _ _ => 0#2
  | .a4I8D _ _ | .a4I8Q _ _ | .a4F32D _ _ | .a4F32Q _ _ | .a5I64D _ _ | .a5I64Q _ _ => 0#2
  | .t1I32D _ _ _ | .t1I32Q _ _ _ | .t3I16D _ _ _ | .t3I16Q _ _ _ | .t4I32D _ _ _ | .t4I32Q _ _ _ => 0#2
  | .t4I8D _ _ | .t4I8Q _ _ | .t4F32D _ _ | .t4F32Q _ _ | .t5I64D _ _ | .t5I64Q _ _ => 0#2

/-- `CurrentCond` (40_vmov_imm_operation.md R122): A2's field, ITSTATE's condition for a T32 instruction, else "always". -/
def currentCond (s : State) : Instr → BitVec 4
  | .a2F16 cond _ _ _ | .a2F32 cond _ _ _ | .a2F64 cond _ _ _ | .a2Size00 cond _ _ _ => cond
  | .a1I32D _ _ _ | .a1I32Q _ _ _ | .a3I16D _ _ _ | .a3I16Q _ _ _ | .a4I32D _ _ _ | .a4I32Q _ _ _ => 0b1110#4
  | .a4I8D _ _ | .a4I8Q _ _ | .a4F32D _ _ | .a4F32Q _ _ | .a5I64D _ _ | .a5I64Q _ _ => 0b1110#4
  | .t1I32D _ _ _ | .t1I32Q _ _ _ | .t3I16D _ _ _ | .t3I16Q _ _ _ | .t4I32D _ _ _ | .t4I32Q _ _ _ => condT32 s.itstate
  | .t4I8D _ _ | .t4I8Q _ _ | .t4F32D _ _ | .t4F32Q _ _ | .t5I64D _ _ | .t5I64Q _ _ => condT32 s.itstate
  | .t2F16 _ _ _ | .t2F32 _ _ _ | .t2F64 _ _ _ | .t2Size00 _ _ _ => condT32 s.itstate

/-- `Q == '1' && Vd<0> == '1'` (30_encoding.md R95): a 128-bit variant naming an odd D register. -/
def namesOddQuadword : Instr → Bool
  | .a1I32Q _ d _ | .a3I16Q _ d _ | .a4I32Q _ d _ | .a4I8Q d _ | .a4F32Q d _ | .a5I64Q d _ => d.extractLsb' 0 1 == 0b1#1
  | .t1I32Q _ d _ | .t3I16Q _ d _ | .t4I32Q _ d _ | .t4I8Q d _ | .t4F32Q d _ | .t5I64Q d _ => d.extractLsb' 0 1 == 0b1#1
  | .a1I32D _ _ _ | .a3I16D _ _ _ | .a4I32D _ _ _ | .a4I8D _ _ | .a4F32D _ _ | .a5I64D _ _ => false
  | .t1I32D _ _ _ | .t3I16D _ _ _ | .t4I32D _ _ _ | .t4I8D _ _ | .t4F32D _ _ | .t5I64D _ _ => false
  | .a2F16 _ _ _ _ | .a2F32 _ _ _ _ | .a2F64 _ _ _ _ | .a2Size00 _ _ _ _ => false
  | .t2F16 _ _ _ | .t2F32 _ _ _ | .t2F64 _ _ _ | .t2Size00 _ _ _ => false

/-- The `size` field of an A2 or T2 instruction (30_encoding.md R78, R79); none for the Advanced SIMD encodings. -/
def sizeField : Instr → Option (BitVec 2)
  | .a2Size00 _ _ _ _ | .t2Size00 _ _ _ => some 0b00#2
  | .a2F16 _ _ _ _ | .t2F16 _ _ _ => some 0b01#2
  | .a2F32 _ _ _ _ | .t2F32 _ _ _ => some 0b10#2
  | .a2F64 _ _ _ _ | .t2F64 _ _ _ => some 0b11#2
  | .a1I32D _ _ _ | .a1I32Q _ _ _ | .a3I16D _ _ _ | .a3I16Q _ _ _ | .a4I32D _ _ _ | .a4I32Q _ _ _ => none
  | .a4I8D _ _ | .a4I8Q _ _ | .a4F32D _ _ | .a4F32Q _ _ | .a5I64D _ _ | .a5I64Q _ _ => none
  | .t1I32D _ _ _ | .t1I32Q _ _ _ | .t3I16D _ _ _ | .t3I16Q _ _ _ | .t4I32D _ _ _ | .t4I32Q _ _ _ => none
  | .t4I8D _ _ | .t4I8Q _ _ | .t4F32D _ _ | .t4F32Q _ _ | .t5I64D _ _ | .t5I64Q _ _ => none

/-- Half precision with a condition, or in an IT block: the two CONSTRAINED UNPREDICTABLE forms (30_encoding.md R96). -/
def conditionalHalf (s : State) : Instr → Bool
  | .a2F16 cond _ _ _ => cond != 0b1110#4
  | .t2F16 _ _ _ => inITBlock s.itstate
  | .a2F32 _ _ _ _ | .a2F64 _ _ _ _ | .a2Size00 _ _ _ _ | .t2F32 _ _ _ | .t2F64 _ _ _ | .t2Size00 _ _ _ => false
  | .a1I32D _ _ _ | .a1I32Q _ _ _ | .a3I16D _ _ _ | .a3I16Q _ _ _ | .a4I32D _ _ _ | .a4I32Q _ _ _ => false
  | .a4I8D _ _ | .a4I8Q _ _ | .a4F32D _ _ | .a4F32Q _ _ | .a5I64D _ _ | .a5I64Q _ _ => false
  | .t1I32D _ _ _ | .t1I32Q _ _ _ | .t3I16D _ _ _ | .t3I16Q _ _ _ | .t4I32D _ _ _ | .t4I32Q _ _ _ => false
  | .t4I8D _ _ | .t4I8Q _ _ | .t4F32D _ _ | .t4F32Q _ _ | .t5I64D _ _ | .t5I64Q _ _ => false

/-- The register file as 64 words: word `h` is the low half (h even) or the high half (h odd) of `D[h div 2]`; words 0 to
31 are S[0..31] (10_state.md R30, R31). -/
def readHalf (h : Nat) (s : State) : Word := (readD (h / 2) s).extractLsb' (32 * (h % 2)) 32

/-- The words of the register file an instruction may write (10_state.md R33). -/
def writtenHalves : Instr → List Nat
  | .a1I32D _ d _ | .a3I16D _ d _ | .a4I32D _ d _ | .a4I8D d _ | .a4F32D d _ | .a5I64D d _ => [2 * d.toNat, 2 * d.toNat + 1]
  | .t1I32D _ d _ | .t3I16D _ d _ | .t4I32D _ d _ | .t4I8D d _ | .t4F32D d _ | .t5I64D d _ => [2 * d.toNat, 2 * d.toNat + 1]
  | .a1I32Q _ d _ | .a3I16Q _ d _ | .a4I32Q _ d _ | .a4I8Q d _ | .a4F32Q d _ | .a5I64Q d _ =>
    [2 * d.toNat, 2 * d.toNat + 1, 2 * d.toNat + 2, 2 * d.toNat + 3]
  | .t1I32Q _ d _ | .t3I16Q _ d _ | .t4I32Q _ d _ | .t4I8Q d _ | .t4F32Q d _ | .t5I64Q d _ =>
    [2 * d.toNat, 2 * d.toNat + 1, 2 * d.toNat + 2, 2 * d.toNat + 3]
  | .a2F64 _ d _ _ | .t2F64 d _ _ => [2 * d.toNat, 2 * d.toNat + 1]
  | .a2F16 _ d _ _ | .a2F32 _ d _ _ | .t2F16 d _ _ | .t2F32 d _ _ => [d.toNat]
  | .a2Size00 _ _ _ _ | .t2Size00 _ _ _ => []

/-- Two states agree on all that 10_state.md R48 says no instruction writes, and on the instruction set, the
configuration and every byte of memory. -/
def sameOutside (s t : State) : Prop :=
  t.config = s.config ∧ t.gpr = s.gpr ∧ t.iset = s.iset ∧ t.flags = s.flags ∧ t.fpscr = s.fpscr ∧ t.ctl = s.ctl ∧
    t.dit = s.dit ∧ ∀ a : Nat, t.mem.read a = s.mem.read a

end Sys2Proof.Machine
end

