-- ==== Sys2Proof/Certificates/Slice0/Obligations.lean ====
section
/-! DEFINITION. The statements for the provers. -/

open Sys2Proof Sys2Proof.Machine

/-- Decode and encode agree for every instruction (30_encoding.md R76 to R79, R91, R92, R89; 20_memory.md R62). -/
def Obligations.DecodeOfEncodeIsTheInstruction : Prop :=
  ∀ (i : Instr) (order : ByteOrder) (rest : List Byte), i.wellFormed = true →
    decodeBytes i.iset order (encodeBytes order i ++ rest) = .ok (i, rest)

/-- The other direction: no bit of an accepted word is dropped (30_encoding.md R91, R92). -/
def Obligations.DecodedWordIsTheEncodersWord : Prop :=
  ∀ (t : ISet) (w : Word) (i : Instr), decodeWord t w = .ok i → i.wellFormed = true ∧ i.iset = t ∧ encode i = w

/-- The fixed bits of the four formats, as the masks and matches of 30_encoding.md R76 to R79 give them. -/
def Obligations.WordsOutsideTheMasksMatchNoPattern : Prop :=
  ∀ w : Word,
    (decodeWord .a32 w = .error .noPattern ↔
      w &&& 0xFEB80090#32 ≠ 0xF2800010#32 ∧
        ¬ (w &&& 0x0FB00C50#32 = 0x0EB00800#32 ∧ w &&& 0xF0000000#32 ≠ 0xF0000000#32)) ∧
    (decodeWord .t32 w = .error .noPattern ↔
      w &&& 0xEFB80090#32 ≠ 0xEF800010#32 ∧ w &&& 0xFFB00C50#32 ≠ 0xEEB00800#32)

/-- The words of the class that are VORR, related encodings, or VMOV (immediate) (30_encoding.md R81, R93, R94). -/
def Obligations.SeeClausesChooseWhatIsNotVmov : Prop :=
  ∀ (op : BitVec 1) (cmode : BitVec 4) (q : BitVec 1) (d : BitVec 5) (imm8 : BitVec 8),
    let vorr : Prop := op = 0b0#1 ∧ cmode ∈ [0b0001#4, 0b0011#4, 0b0101#4, 0b0111#4, 0b1001#4, 0b1011#4]
    let related : Prop := op = 0b1#1 ∧ cmode ≠ 0b1110#4
    let vmov : Prop :=
      (op = 0b0#1 ∧ cmode ∈ [0b0000#4, 0b0010#4, 0b0100#4, 0b0110#4, 0b1000#4, 0b1010#4, 0b1100#4, 0b1101#4, 0b1110#4, 0b1111#4])
        ∨ (op = 0b1#1 ∧ cmode = 0b1110#4)
    let a := decodeWord .a32 (encodeSimdA32 op cmode q d imm8)
    let t := decodeWord .t32 (encodeSimdT32 op cmode q d imm8)
    (a = .error .seeVorrImmediate ↔ vorr) ∧ (t = .error .seeVorrImmediate ↔ vorr) ∧
      (a = .error .seeRelatedEncodings ↔ related) ∧ (t = .error .seeRelatedEncodings ↔ related) ∧
      ((∃ i, a = .ok i) ↔ vmov) ∧ ((∃ i, t = .ok i) ↔ vmov)

/-- 30_encoding.md R93. -/
def Obligations.VorrClauseRedirectsSixCmodes : Prop :=
  ∀ (t : ISet) (op : BitVec 1) (cmode : BitVec 4) (q : BitVec 1) (d : BitVec 5) (imm8 : BitVec 8),
    let clause : Prop := op = 0b0#1 ∧ cmode.extractLsb' 0 1 = 0b1#1 ∧ cmode.extractLsb' 2 2 ≠ 0b11#2
    (decodeSimdFields t op cmode q d imm8 = .error .seeVorrImmediate ↔ clause) ∧
      (clause ↔ op = 0b0#1 ∧ cmode ∈ [0b0001#4, 0b0011#4, 0b0101#4, 0b0111#4, 0b1001#4, 0b1011#4]) ∧
      (cmode.extractLsb' 3 1 = 0b0#1 → cmode.extractLsb' 0 1 = 0b0#1 → ¬ clause) ∧
      (cmode.extractLsb' 2 2 = 0b10#2 → cmode.extractLsb' 0 1 = 0b0#1 → ¬ clause) ∧
      (cmode.extractLsb' 2 2 = 0b11#2 → ¬ clause) ∧ (op = 0b1#1 → ¬ clause)

/-- 30_encoding.md R98 (general knowledge there, log 21): such a word is not A2 whatever its other bits. -/
def Obligations.UnconditionalSpaceIsNeverA2 : Prop :=
  ∀ (w : Word) (cond : BitVec 4) (d : BitVec 5) (imm8 : BitVec 8) (sbz : BitVec 2), w.extractLsb' 28 4 = 0b1111#4 →
    decodeWord .a32 w ≠ .ok (.a2F16 cond d imm8 sbz) ∧ decodeWord .a32 w ≠ .ok (.a2F32 cond d imm8 sbz) ∧
      decodeWord .a32 w ≠ .ok (.a2F64 cond d imm8 sbz) ∧ decodeWord .a32 w ≠ .ok (.a2Size00 cond d imm8 sbz)

/-- Sanity: the decoder on words of 95_test_vectors.md. -/
def Obligations.SampleWordsDecode : Prop :=
  decodeWord .a32 0xF2800010#32 = .ok (.a1I32D 0 0 0) ∧ decodeWord .a32 0xF3C2EA5B#32 = .ok (.a3I16Q 1 30 0xAB) ∧
    decodeWord .a32 0xF2870F50#32 = .ok (.a4F32Q 0 0x70) ∧ decodeWord .a32 0xF3825E36#32 = .ok (.a5I64D 5 0xA6) ∧
    decodeWord .a32 0x0EF02A08#32 = .ok (.a2F32 0 5 0x08 0) ∧ decodeWord .a32 0xEEF6FB00#32 = .ok (.a2F64 14 31 0x60 0) ∧
    decodeWord .t32 0xEF800010#32 = .ok (.t1I32D 0 0 0) ∧ decodeWord .t32 0xFFC2045B#32 = .ok (.t1I32Q 2 16 0xAB) ∧
    decodeWord .t32 0xEEF61900#32 = .ok (.t2F16 3 0x60 0) ∧ decodeWord .t32 0xEF806E71#32 = .ok (.t5I64Q 6 0x01)

/-- Fetch, decode and exec are one step (40_vmov_imm_operation.md R121). -/
def Obligations.StepRunsTheDecodedInstruction : Prop :=
  ∀ (s : State) (bytes rest : List Byte) (i : Instr), pcAligned s.iset s.pc = true → fetch s = .ok bytes →
    decodeBytes s.iset s.config.fetchByteOrder bytes = .ok (i, rest) → i.wellFormed = true → step s = exec i s

/-- Fetching and executing an instruction from memory, in the byte order of 20_memory.md R62 (D1, log 10; the wrap is log 11). -/
def Obligations.InstructionInMemoryIsExecuted : Prop :=
  ∀ (s : State) (i : Instr) (b0 b1 b2 b3 : Byte), pcAligned s.iset s.pc = true →
    s.mem.read s.pc.toNat = some b0 → s.mem.read (s.pc + 1#32).toNat = some b1 →
    s.mem.read (s.pc + 2#32).toNat = some b2 → s.mem.read (s.pc + 3#32).toNat = some b3 →
    (i.wellFormed = true → i.iset = s.iset → encodeBytes s.config.fetchByteOrder i = [b0, b1, b2, b3] → step s = exec i s) ∧
    (s.config.fetchByteOrder = .little →
      (s.iset = .a32 → decodeA32 (b3 ++ b2 ++ b1 ++ b0) = .ok i → step s = exec i s) ∧
      (s.iset = .a32 → ∀ r, decodeA32 (b3 ++ b2 ++ b1 ++ b0) = .error r → step s = .refused (.notThisInstruction r)) ∧
      (s.iset = .t32 → decodeT32 (b1 ++ b0) (b3 ++ b2) = .ok i → step s = exec i s) ∧
      (s.iset = .a32 → [b0, b1, b2, b3] = [0x10, 0x00, 0x80, 0xF2] → step s = exec (.a1I32D 0 0 0) s) ∧
      (s.iset = .t32 → [b0, b1, b2, b3] = [0x80, 0xEF, 0x10, 0x00] → step s = exec (.t1I32D 0 0 0) s))

/-- withFetchWord places exactly the instruction that decodeTableWord reads (log 12). -/
def Obligations.PlacedTableWordIsExecuted : Prop :=
  ∀ (s : State) (nbits w : Nat) (i : Instr), decodeTableWord nbits w = some i →
    step (s.withFetchWord nbits w) = exec i (s.withFetchWord nbits w)

/-- Where the machine has no step (00_scope.md R25, D24; 20_memory.md R63, D27; log 9). -/
def Obligations.OtherWordsHaveNoStep : Prop :=
  ∀ s : State,
    (∀ (bytes : List Byte) (r : DecodeReject), pcAligned s.iset s.pc = true → fetch s = .ok bytes →
      decodeBytes s.iset s.config.fetchByteOrder bytes = .error r → step s = .refused (.notThisInstruction r)) ∧
    (s.iset = .a32 → s.pc.toNat % 4 ≠ 0 → step s = .refused .misalignedPc) ∧
    (s.iset = .t32 → s.pc.toNat % 2 ≠ 0 → step s = .refused .misalignedPc) ∧
    (pcAligned s.iset s.pc = true → s.mem.read s.pc.toNat = none → step s = .fault (.fetchNoValue s.pc.toNat))

/-- Result, completion and frame of A1, A3, A4, A5 with Q == 0 (41_vmov_imm_a32.md R130, R132 to R134; 30_encoding.md R86). -/
def Obligations.A32DoublewordFormsWriteTheConstant : Prop :=
  ∀ (c2 : BitVec 2) (c1 : BitVec 1) (d : BitVec 5) (imm8 : BitVec 8) (s : State), s.enabled true →
    let t : DWord → State := fun v =>
      { s with simd := s.simd.setIfInBounds d.toNat v, pc := s.pc + 4#32, itstate := itAfter s }
    let imm : BitVec 1 → BitVec 4 → DWord := fun op cmode => simdExpand s.config op cmode imm8
    exec (.a1I32D c2 d imm8) s = .next (t (imm 0b0#1 (0b0#1 ++ c2 ++ 0b0#1))) ∧
    exec (.a3I16D c1 d imm8) s = .next (t (imm 0b0#1 (0b10#2 ++ c1 ++ 0b0#1))) ∧
    exec (.a4I32D c1 d imm8) s = .next (t (imm 0b0#1 (0b110#3 ++ c1))) ∧
    exec (.a4I8D d imm8) s = .next (t (imm 0b0#1 0b1110#4)) ∧
    exec (.a4F32D d imm8) s = .next (t (imm 0b0#1 0b1111#4)) ∧
    exec (.a5I64D d imm8) s = .next (t (imm 0b1#1 0b1110#4)) ∧
    (s.config.expandSimd = .adopted →
      imm 0b0#1 (0b0#1 ++ c2 ++ 0b0#1) = replicate32 (imm8.setWidth 32 <<< (8 * c2.toNat)) ∧
      imm 0b0#1 (0b10#2 ++ c1 ++ 0b0#1) = replicate16 (imm8.setWidth 16 <<< (8 * c1.toNat)) ∧
      imm 0b0#1 (0b110#3 ++ c1) = replicate32 (if c1 = 0b0#1 then 0#16 ++ imm8 ++ 0xFF#8 else 0#8 ++ imm8 ++ 0xFFFF#16) ∧
      imm 0b0#1 0b1110#4 = replicate8 imm8 ∧
      imm 0b0#1 0b1111#4 = replicate32 (expandVfp32 imm8) ∧
      imm 0b1#1 0b1110#4 = elementByteMask imm8)

/-- Result, completion and frame of A1, A3, A4, A5 with Q == 1 and `Vd<0>` clear (41_vmov_imm_a32.md R130, R132 to R134; 30_encoding.md R86). -/
def Obligations.A32QuadwordFormsWriteTheConstant : Prop :=
  ∀ (c2 : BitVec 2) (c1 : BitVec 1) (d : BitVec 5) (imm8 : BitVec 8) (s : State), s.enabled true → d.extractLsb' 0 1 = 0b0#1 →
    let t : DWord → State := fun v =>
      { s with simd := (s.simd.setIfInBounds d.toNat v).setIfInBounds (d.toNat + 1) v, pc := s.pc + 4#32, itstate := itAfter s }
    let imm : BitVec 1 → BitVec 4 → DWord := fun op cmode => simdExpand s.config op cmode imm8
    exec (.a1I32Q c2 d imm8) s = .next (t (imm 0b0#1 (0b0#1 ++ c2 ++ 0b0#1))) ∧
    exec (.a3I16Q c1 d imm8) s = .next (t (imm 0b0#1 (0b10#2 ++ c1 ++ 0b0#1))) ∧
    exec (.a4I32Q c1 d imm8) s = .next (t (imm 0b0#1 (0b110#3 ++ c1))) ∧
    exec (.a4I8Q d imm8) s = .next (t (imm 0b0#1 0b1110#4)) ∧
    exec (.a4F32Q d imm8) s = .next (t (imm 0b0#1 0b1111#4)) ∧
    exec (.a5I64Q d imm8) s = .next (t (imm 0b1#1 0b1110#4)) ∧
    (s.config.expandSimd = .adopted →
      imm 0b0#1 (0b0#1 ++ c2 ++ 0b0#1) = replicate32 (imm8.setWidth 32 <<< (8 * c2.toNat)) ∧
      imm 0b0#1 (0b10#2 ++ c1 ++ 0b0#1) = replicate16 (imm8.setWidth 16 <<< (8 * c1.toNat)) ∧
      imm 0b0#1 (0b110#3 ++ c1) = replicate32 (if c1 = 0b0#1 then 0#16 ++ imm8 ++ 0xFF#8 else 0#8 ++ imm8 ++ 0xFFFF#16) ∧
      imm 0b0#1 0b1110#4 = replicate8 imm8 ∧
      imm 0b0#1 0b1111#4 = replicate32 (expandVfp32 imm8) ∧
      imm 0b1#1 0b1110#4 = elementByteMask imm8)

/-- Result, completion and frame of T1, T3, T4, T5 with Q == 0 (42_vmov_imm_t32.md R140, R142 to R144; 30_encoding.md R86). -/
def Obligations.T32DoublewordFormsWriteTheConstant : Prop :=
  ∀ (c2 : BitVec 2) (c1 : BitVec 1) (d : BitVec 5) (imm8 : BitVec 8) (s : State), s.enabled true → s.condT32Passes →
    let t : DWord → State := fun v =>
      { s with simd := s.simd.setIfInBounds d.toNat v, pc := s.pc + 4#32, itstate := itAfter s }
    let imm : BitVec 1 → BitVec 4 → DWord := fun op cmode => simdExpand s.config op cmode imm8
    exec (.t1I32D c2 d imm8) s = .next (t (imm 0b0#1 (0b0#1 ++ c2 ++ 0b0#1))) ∧
    exec (.t3I16D c1 d imm8) s = .next (t (imm 0b0#1 (0b10#2 ++ c1 ++ 0b0#1))) ∧
    exec (.t4I32D c1 d imm8) s = .next (t (imm 0b0#1 (0b110#3 ++ c1))) ∧
    exec (.t4I8D d imm8) s = .next (t (imm 0b0#1 0b1110#4)) ∧
    exec (.t4F32D d imm8) s = .next (t (imm 0b0#1 0b1111#4)) ∧
    exec (.t5I64D d imm8) s = .next (t (imm 0b1#1 0b1110#4)) ∧
    (s.config.expandSimd = .adopted →
      imm 0b0#1 (0b0#1 ++ c2 ++ 0b0#1) = replicate32 (imm8.setWidth 32 <<< (8 * c2.toNat)) ∧
      imm 0b0#1 (0b10#2 ++ c1 ++ 0b0#1) = replicate16 (imm8.setWidth 16 <<< (8 * c1.toNat)) ∧
      imm 0b0#1 (0b110#3 ++ c1) = replicate32 (if c1 = 0b0#1 then 0#16 ++ imm8 ++ 0xFF#8 else 0#8 ++ imm8 ++ 0xFFFF#16) ∧
      imm 0b0#1 0b1110#4 = replicate8 imm8 ∧
      imm 0b0#1 0b1111#4 = replicate32 (expandVfp32 imm8) ∧
      imm 0b1#1 0b1110#4 = elementByteMask imm8)

/-- Result, completion and frame of T1, T3, T4, T5 with Q == 1 and `Vd<0>` clear (42_vmov_imm_t32.md R140, R142 to R144; 30_encoding.md R86). -/
def Obligations.T32QuadwordFormsWriteTheConstant : Prop :=
  ∀ (c2 : BitVec 2) (c1 : BitVec 1) (d : BitVec 5) (imm8 : BitVec 8) (s : State), s.enabled true → d.extractLsb' 0 1 = 0b0#1 → s.condT32Passes →
    let t : DWord → State := fun v =>
      { s with simd := (s.simd.setIfInBounds d.toNat v).setIfInBounds (d.toNat + 1) v, pc := s.pc + 4#32, itstate := itAfter s }
    let imm : BitVec 1 → BitVec 4 → DWord := fun op cmode => simdExpand s.config op cmode imm8
    exec (.t1I32Q c2 d imm8) s = .next (t (imm 0b0#1 (0b0#1 ++ c2 ++ 0b0#1))) ∧
    exec (.t3I16Q c1 d imm8) s = .next (t (imm 0b0#1 (0b10#2 ++ c1 ++ 0b0#1))) ∧
    exec (.t4I32Q c1 d imm8) s = .next (t (imm 0b0#1 (0b110#3 ++ c1))) ∧
    exec (.t4I8Q d imm8) s = .next (t (imm 0b0#1 0b1110#4)) ∧
    exec (.t4F32Q d imm8) s = .next (t (imm 0b0#1 0b1111#4)) ∧
    exec (.t5I64Q d imm8) s = .next (t (imm 0b1#1 0b1110#4)) ∧
    (s.config.expandSimd = .adopted →
      imm 0b0#1 (0b0#1 ++ c2 ++ 0b0#1) = replicate32 (imm8.setWidth 32 <<< (8 * c2.toNat)) ∧
      imm 0b0#1 (0b10#2 ++ c1 ++ 0b0#1) = replicate16 (imm8.setWidth 16 <<< (8 * c1.toNat)) ∧
      imm 0b0#1 (0b110#3 ++ c1) = replicate32 (if c1 = 0b0#1 then 0#16 ++ imm8 ++ 0xFF#8 else 0#8 ++ imm8 ++ 0xFFFF#16) ∧
      imm 0b0#1 0b1110#4 = replicate8 imm8 ∧
      imm 0b0#1 0b1111#4 = replicate32 (expandVfp32 imm8) ∧
      imm 0b1#1 0b1110#4 = elementByteMask imm8)

/-- Result, completion and frame of A2 (41_vmov_imm_a32.md R131; 40_vmov_imm_operation.md R124, R125). -/
def Obligations.A2FormsWriteTheConstant : Prop :=
  ∀ (cond : BitVec 4) (d : BitVec 5) (imm8 : BitVec 8) (sbz : BitVec 2) (s : State),
    s.enabled false → s.fpscrZero → s.sbzAccepted sbz →
    let single : Word → State := fun v =>
      { s with simd := (writeS d.toNat v s).simd, pc := s.pc + 4#32, itstate := itAfter s }
    let double : DWord → State := fun v =>
      { s with simd := s.simd.setIfInBounds d.toNat v, pc := s.pc + 4#32, itstate := itAfter s }
    (s.config.haveFP16 = true → exec (.a2F16 0b1110#4 d imm8 sbz) s = .next (single (0#16 ++ vfpExpand16 s.config imm8))) ∧
    (conditionPassed cond s.flags = true → exec (.a2F32 cond d imm8 sbz) s = .next (single (vfpExpand32 s.config imm8))) ∧
    (conditionPassed cond s.flags = true → exec (.a2F64 cond d imm8 sbz) s = .next (double (vfpExpand64 s.config imm8))) ∧
    (s.config.expandVfp = .adopted → vfpExpand16 s.config imm8 = expandVfp16 imm8 ∧ vfpExpand32 s.config imm8 = expandVfp32 imm8 ∧
      vfpExpand64 s.config imm8 = expandVfp64 imm8)

/-- Result, completion and frame of T2 (42_vmov_imm_t32.md R141; 40_vmov_imm_operation.md R124, R125). -/
def Obligations.T2FormsWriteTheConstant : Prop :=
  ∀ (d : BitVec 5) (imm8 : BitVec 8) (sbz : BitVec 2) (s : State),
    s.enabled false → s.fpscrZero → s.sbzAccepted sbz →
    let single : Word → State := fun v =>
      { s with simd := (writeS d.toNat v s).simd, pc := s.pc + 4#32, itstate := itAfter s }
    let double : DWord → State := fun v =>
      { s with simd := s.simd.setIfInBounds d.toNat v, pc := s.pc + 4#32, itstate := itAfter s }
    (s.config.haveFP16 = true → inITBlock s.itstate = false →
      exec (.t2F16 d imm8 sbz) s = .next (single (0#16 ++ vfpExpand16 s.config imm8))) ∧
    (s.condT32Passes → exec (.t2F32 d imm8 sbz) s = .next (single (vfpExpand32 s.config imm8))) ∧
    (s.condT32Passes → exec (.t2F64 d imm8 sbz) s = .next (double (vfpExpand64 s.config imm8))) ∧
    (s.config.expandVfp = .adopted → vfpExpand16 s.config imm8 = expandVfp16 imm8 ∧ vfpExpand32 s.config imm8 = expandVfp32 imm8 ∧
      vfpExpand64 s.config imm8 = expandVfp64 imm8)

/-- A failed condition hides every UNDEFINED test and the enable check (40_vmov_imm_operation.md R121, R128; 60_exceptions.md R156). -/
def Obligations.FailedConditionIsNop : Prop :=
  ∀ (cond : BitVec 4) (c2 : BitVec 2) (c1 : BitVec 1) (d : BitVec 5) (imm8 : BitVec 8) (sbz : BitVec 2) (s : State),
    s.config.condFailUndef = false →
    let skipped : Host.Outcome State Fault Refusal := .next { s with pc := s.pc + 4#32, itstate := itAfter s }
    (conditionPassed (condT32 s.itstate) s.flags = false → ∀ i ∈ ([
      .t1I32D c2 d imm8, .t1I32Q c2 d imm8, .t3I16D c1 d imm8,
      .t3I16Q c1 d imm8, .t4I32D c1 d imm8, .t4I32Q c1 d imm8,
      .t4I8D d imm8, .t4I8Q d imm8, .t4F32D d imm8,
      .t4F32Q d imm8, .t5I64D d imm8, .t5I64Q d imm8] : List Instr), exec i s = skipped) ∧
    (s.sbzAccepted sbz → conditionPassed (condT32 s.itstate) s.flags = false →
      exec (.t2F32 d imm8 sbz) s = skipped ∧ exec (.t2F64 d imm8 sbz) s = skipped ∧ exec (.t2Size00 d imm8 sbz) s = skipped ∧
      (¬ s.fpscrZero ∨ s.config.haveFP16 = false → exec (.t2F16 d imm8 sbz) s = skipped)) ∧
    (s.sbzAccepted sbz → conditionPassed cond s.flags = false →
      exec (.a2F32 cond d imm8 sbz) s = skipped ∧ exec (.a2F64 cond d imm8 sbz) s = skipped ∧
      exec (.a2Size00 cond d imm8 sbz) s = skipped ∧
      (¬ s.fpscrZero ∨ s.config.haveFP16 = false → exec (.a2F16 cond d imm8 sbz) s = skipped))

/-- The outcome that CondFailUndef admits (40_vmov_imm_operation.md R121, caveat; the choice is free, log 5). -/
def Obligations.CondFailUndefAdmitsOneMoreOutcome : Prop :=
  ∀ (i : Instr) (s : State), s.config.condFailUndef = true → conditionPassed (currentCond s i) s.flags = false →
    s.sbzAccepted (sbzOf i) →
    let skipped : Nat → State := fun n => { s with pc := s.pc + 4#32, itstate := itAfter s, choices := n }
    let eitherOutcome : Prop := exec i s = .next (skipped (s.choices + 1)) ∨ exec i s = .fault .undefined
    let textUndefined : Prop := namesOddQuadword i = true ∨ (advsimdOf i = false ∧ ¬ s.fpscrZero) ∨ sizeField i = some 0b00#2 ∨
      (sizeField i = some 0b01#2 ∧ s.config.haveFP16 = false)
    let disabled : Prop := fpSimdAccess s.config s.ctl (advsimdOf i) = .undefined
    (textUndefined → eitherOutcome) ∧
    (conditionalHalf s i = false → disabled → eitherOutcome) ∧
    (conditionalHalf s i = false → ¬ textUndefined → ¬ disabled → exec i s = .next (skipped s.choices))

/-- 60_exceptions.md R152 cause 1 (30_encoding.md R95). -/
def Obligations.OddQuadwordIsUndefined : Prop :=
  ∀ (c2 : BitVec 2) (c1 : BitVec 1) (d : BitVec 5) (imm8 : BitVec 8) (s : State), d.extractLsb' 0 1 = 0b1#1 →
    (∀ i ∈ ([
      .a1I32Q c2 d imm8, .a3I16Q c1 d imm8, .a4I32Q c1 d imm8,
      .a4I8Q d imm8, .a4F32Q d imm8, .a5I64Q d imm8] : List Instr),
      exec i s = .fault .undefined) ∧
    (s.condT32Passes → ∀ i ∈ ([
      .t1I32Q c2 d imm8, .t3I16Q c1 d imm8, .t4I32Q c1 d imm8,
      .t4I8Q d imm8, .t4F32Q d imm8, .t5I64Q d imm8] : List Instr),
      exec i s = .fault .undefined)

/-- 60_exceptions.md R152 cause 2 (30_encoding.md R95). -/
def Obligations.ShortVectorModeMakesScalarFormsUndefined : Prop :=
  ∀ (cond : BitVec 4) (d : BitVec 5) (imm8 : BitVec 8) (sbz : BitVec 2) (s : State), ¬ s.fpscrZero → s.sbzAccepted sbz →
    (conditionPassed cond s.flags = true → ∀ i ∈ ([
      .a2F16 cond d imm8 sbz, .a2F32 cond d imm8 sbz, .a2F64 cond d imm8 sbz,
      .a2Size00 cond d imm8 sbz] : List Instr), exec i s = .fault .undefined) ∧
    (s.condT32Passes → ∀ i ∈ ([
      .t2F16 d imm8 sbz, .t2F32 d imm8 sbz, .t2F64 d imm8 sbz,
      .t2Size00 d imm8 sbz] : List Instr), exec i s = .fault .undefined)

/-- 60_exceptions.md R152 causes 3 and 4 (30_encoding.md R95, 00_scope.md R8). -/
def Obligations.SizeZeroAndMissingFp16AreUndefined : Prop :=
  ∀ (cond : BitVec 4) (d : BitVec 5) (imm8 : BitVec 8) (sbz : BitVec 2) (s : State), s.sbzAccepted sbz →
    (conditionPassed cond s.flags = true → exec (.a2Size00 cond d imm8 sbz) s = .fault .undefined ∧
      (s.config.haveFP16 = false → exec (.a2F16 cond d imm8 sbz) s = .fault .undefined)) ∧
    (s.condT32Passes → exec (.t2Size00 d imm8 sbz) s = .fault .undefined ∧
      (s.config.haveFP16 = false → exec (.t2F16 d imm8 sbz) s = .fault .undefined))

/-- 41_vmov_imm_a32.md R135; which outcome occurs is a free choice (log 4). -/
def Obligations.ConditionalHalfPrecisionA2HasThreeOutcomes : Prop :=
  ∀ (cond : BitVec 4) (d : BitVec 5) (imm8 : BitVec 8) (sbz : BitVec 2) (s : State), cond ≠ 0b1110#4 → s.fpscrZero →
    s.config.haveFP16 = true → s.sbzAccepted sbz →
    let t : Vector DWord 32 → State := fun v =>
      { s with simd := v, pc := s.pc + 4#32, itstate := itAfter s, choices := s.choices + 1 }
    exec (.a2F16 cond d imm8 sbz) s = .fault .undefined ∨
      exec (.a2F16 cond d imm8 sbz) s = .next (t s.simd) ∨
      exec (.a2F16 cond d imm8 sbz) s =
        (match fpSimdAccess s.config s.ctl false with
          | .enabled => .next (t (writeS d.toNat (0#16 ++ vfpExpand16 s.config imm8) s).simd)
          | .undefined => .fault .undefined
          | .hypTrap => .fault .hypTrap)

/-- 42_vmov_imm_t32.md R145; which outcome occurs is a free choice (log 4). -/
def Obligations.HalfPrecisionInItBlockHasThreeOutcomes : Prop :=
  ∀ (d : BitVec 5) (imm8 : BitVec 8) (sbz : BitVec 2) (s : State), inITBlock s.itstate = true → s.fpscrZero →
    s.config.haveFP16 = true → s.sbzAccepted sbz →
    let t : Vector DWord 32 → State := fun v =>
      { s with simd := v, pc := s.pc + 4#32, itstate := itAfter s, choices := s.choices + 1 }
    exec (.t2F16 d imm8 sbz) s = .fault .undefined ∨
      exec (.t2F16 d imm8 sbz) s = .next (t s.simd) ∨
      exec (.t2F16 d imm8 sbz) s =
        (match fpSimdAccess s.config s.ctl false with
          | .enabled => .next (t (writeS d.toNat (0#16 ++ vfpExpand16 s.config imm8) s).simd)
          | .undefined => .fault .undefined
          | .hypTrap => .fault .hypTrap)

/-- 60_exceptions.md R152 causes 6 and 7 (40_vmov_imm_operation.md R123). -/
def Obligations.EnableCheckStopsTheInstruction : Prop :=
  ∀ (cond : BitVec 4) (c2 : BitVec 2) (c1 : BitVec 1) (d : BitVec 5) (imm8 : BitVec 8) (sbz : BitVec 2) (s : State),
    let stops : Access → Host.Outcome State Fault Refusal → Prop := fun a o =>
      (a = .undefined → o = .fault .undefined) ∧ (a = .hypTrap → o = .fault .hypTrap)
    let simd := fpSimdAccess s.config s.ctl true
    let fp := fpSimdAccess s.config s.ctl false
    (d.extractLsb' 0 1 = 0b0#1 → ∀ i ∈ ([
      .a1I32Q c2 d imm8, .a3I16Q c1 d imm8, .a4I32Q c1 d imm8,
      .a4I8Q d imm8, .a4F32Q d imm8, .a5I64Q d imm8] : List Instr), stops simd (exec i s)) ∧
    (∀ i ∈ ([
      .a1I32D c2 d imm8, .a3I16D c1 d imm8, .a4I32D c1 d imm8,
      .a4I8D d imm8, .a4F32D d imm8, .a5I64D d imm8] : List Instr), stops simd (exec i s)) ∧
    (s.condT32Passes → d.extractLsb' 0 1 = 0b0#1 → ∀ i ∈ ([
      .t1I32Q c2 d imm8, .t3I16Q c1 d imm8, .t4I32Q c1 d imm8,
      .t4I8Q d imm8, .t4F32Q d imm8, .t5I64Q d imm8] : List Instr), stops simd (exec i s)) ∧
    (s.condT32Passes → ∀ i ∈ ([
      .t1I32D c2 d imm8, .t3I16D c1 d imm8, .t4I32D c1 d imm8,
      .t4I8D d imm8, .t4F32D d imm8, .t5I64D d imm8] : List Instr), stops simd (exec i s)) ∧
    (s.fpscrZero → s.sbzAccepted sbz →
      (conditionPassed cond s.flags = true →
        stops fp (exec (.a2F32 cond d imm8 sbz) s) ∧ stops fp (exec (.a2F64 cond d imm8 sbz) s)) ∧
      (s.condT32Passes → stops fp (exec (.t2F32 d imm8 sbz) s) ∧ stops fp (exec (.t2F64 d imm8 sbz) s)) ∧
      (s.config.haveFP16 = true → stops fp (exec (.a2F16 0b1110#4 d imm8 sbz) s) ∧
        (inITBlock s.itstate = false → stops fp (exec (.t2F16 d imm8 sbz) s))))

/-- 60_exceptions.md R152 cause 8 (30_encoding.md R97, 00_scope.md R13). -/
def Obligations.ShouldBeZeroBitsFaultOrAreIgnored : Prop :=
  ∀ (cond : BitVec 4) (d : BitVec 5) (imm8 : BitVec 8) (sbz : BitVec 2) (s : State),
    (s.config.sbzPolicy = .fault → sbz ≠ 0#2 → ∀ i ∈ ([
      .a2F16 cond d imm8 sbz, .a2F32 cond d imm8 sbz, .a2F64 cond d imm8 sbz,
      .a2Size00 cond d imm8 sbz,
      .t2F16 d imm8 sbz, .t2F32 d imm8 sbz, .t2F64 d imm8 sbz,
      .t2Size00 d imm8 sbz] : List Instr), exec i s = .fault .unpredictable) ∧
    (s.config.sbzPolicy = .ignore →
      exec (.a2F16 cond d imm8 sbz) s = exec (.a2F16 cond d imm8 0#2) s ∧
      exec (.a2F32 cond d imm8 sbz) s = exec (.a2F32 cond d imm8 0#2) s ∧
      exec (.a2F64 cond d imm8 sbz) s = exec (.a2F64 cond d imm8 0#2) s ∧
      exec (.a2Size00 cond d imm8 sbz) s = exec (.a2Size00 cond d imm8 0#2) s ∧
      exec (.t2F16 d imm8 sbz) s = exec (.t2F16 d imm8 0#2) s ∧
      exec (.t2F32 d imm8 sbz) s = exec (.t2F32 d imm8 0#2) s ∧
      exec (.t2F64 d imm8 sbz) s = exec (.t2F64 d imm8 0#2) s ∧
      exec (.t2Size00 d imm8 sbz) s = exec (.t2Size00 d imm8 0#2) s)

/-- 30_encoding.md R95, "complete list from the source". -/
def Obligations.UndefinedEncodingsAreTheListedOnes : Prop :=
  ∀ (i : Instr) (s : State), conditionPassed (currentCond s i) s.flags = true → s.sbzAccepted (sbzOf i) →
    let oddQuadword : Prop := namesOddQuadword i = true
    let shortVectors : Prop := advsimdOf i = false ∧ (s.fpscr.len ≠ 0b000#3 ∨ s.fpscr.stride ≠ 0b00#2)
    let sizeZero : Prop := sizeField i = some 0b00#2
    let noHalf : Prop := sizeField i = some 0b01#2 ∧ s.config.haveFP16 = false
    let disabled : Prop := fpSimdAccess s.config s.ctl (advsimdOf i) = .undefined
    (oddQuadword → exec i s = .fault .undefined) ∧
    (shortVectors → exec i s = .fault .undefined) ∧
    (sizeZero → exec i s = .fault .undefined) ∧
    (noHalf → exec i s = .fault .undefined) ∧
    (disabled → conditionalHalf s i = false → exec i s = .fault .undefined) ∧
    (exec i s = .fault .undefined →
      oddQuadword ∨ shortVectors ∨ sizeZero ∨ noHalf ∨ disabled ∨ conditionalHalf s i = true)

/-- 60_exceptions.md R152: "No other synchronous exception can be caused by executing the instruction". -/
def Obligations.EveryStopHasItsCause : Prop :=
  ∀ (i : Instr) (s : State),
    (∀ r, exec i s ≠ .refused r) ∧
    ∀ f, exec i s = .fault f →
      (f = .hypTrap ∧ fpSimdAccess s.config s.ctl (advsimdOf i) = .hypTrap) ∨
      (f = .unpredictable ∧ sbzOf i ≠ 0#2 ∧ s.config.sbzPolicy = .fault) ∨
      (f = .undefined ∧
        (namesOddQuadword i = true ∨ (advsimdOf i = false ∧ ¬ s.fpscrZero) ∨ sizeField i = some 0b00#2 ∨
          (sizeField i = some 0b01#2 ∧ s.config.haveFP16 = false) ∨ conditionalHalf s i = true ∨
          fpSimdAccess s.config s.ctl (advsimdOf i) = .undefined))

/-- The frame of every instruction (10_state.md R48, R33). -/
def Obligations.CompletedInstructionFrame : Prop :=
  ∀ (i : Instr) (s t : State), exec i s = .next t →
    sameOutside s t ∧ t.pc = s.pc + 4#32 ∧ t.itstate = itAfter s ∧
      ∀ h < 64, h ∉ writtenHalves i → readHalf h t = readHalf h s

/-- 40_vmov_imm_operation.md R127 and the advance of 10_state.md R39, the spec's decisions D2 and D14 (logs 20, 22). -/
def Obligations.EveryCompletedInstructionAdvances : Prop :=
  ∀ (i : Instr) (s t : State), exec i s = .next t →
    t.pc.toNat = (s.pc.toNat + 4) % 2 ^ 32 ∧
      (s.iset = .t32 → s.itstate.extractLsb' 0 3 = 0b000#3 → t.itstate = 0#8) ∧
      (s.iset = .t32 → s.itstate.extractLsb' 0 3 ≠ 0b000#3 →
        t.itstate.extractLsb' 5 3 = s.itstate.extractLsb' 5 3 ∧ t.itstate.extractLsb' 0 5 = s.itstate.extractLsb' 0 5 <<< 1) ∧
      (s.iset = .a32 → t.itstate = s.itstate)

/-- 40_vmov_imm_operation.md R126, which the spec derives from R120. -/
def Obligations.FlagsAndStatusAreNeverWritten : Prop :=
  ∀ (i : Instr) (s : State),
    (∀ t, exec i s = .next t → t.flags = s.flags ∧ t.fpscr = s.fpscr ∧ t.itstate = itAfter s) ∧
      ∀ f, exec i s = .fault f → f = .undefined ∨ f = .hypTrap ∨ f = .unpredictable

/-- 20_memory.md R60: no MemRead, no MemWrite, no data abort. -/
def Obligations.ExecutionIgnoresAndKeepsMemory : Prop :=
  ∀ (i : Instr) (s : State) (m : Memory),
    (∀ t, exec i s = .next t →
      (∀ a : Nat, t.mem.read a = s.mem.read a) ∧ exec i { s with mem := m } = .next { t with mem := m }) ∧
    (∀ f, exec i s = .fault f → exec i { s with mem := m } = .fault f)

/-- 10_state.md R34: no SIMD&FP register is read, so none needs a value first. -/
def Obligations.ExecutionReadsNoSimdRegister : Prop :=
  ∀ (i : Instr) (s : State) (v : Vector DWord 32),
    (∀ t, exec i s = .next t → ∃ u, exec i { s with simd := v } = .next u ∧ { u with simd := t.simd } = t ∧
      ∀ h < 64, readHalf h u = readHalf h t ∨
        (readHalf h t = readHalf h s ∧ readHalf h u = readHalf h { s with simd := v })) ∧
    (∀ f, exec i s = .fault f → exec i { s with simd := v } = .fault f)

/-- 40_vmov_imm_operation.md R128: the write is idempotent. -/
def Obligations.RepeatedInstructionChangesOnlyPc : Prop :=
  ∀ (i : Instr) (s t : State), s.config.condFailUndef = false →
    (s.itstate = 0#8 ∨ (s.iset = .a32 ∧ i.iset = .a32)) →
    (∀ cond d imm8 sbz, i = .a2F16 cond d imm8 sbz → cond = 0b1110#4) →
    exec i s = .next t → exec i t = .next { t with pc := t.pc + 4#32 }

/-- 42_vmov_imm_t32.md R140 to R144: semantics identical except for the condition. -/
def Obligations.T32FormsEqualA32FormsButForTheCondition : Prop :=
  ∀ (c2 : BitVec 2) (c1 : BitVec 1) (d : BitVec 5) (imm8 : BitVec 8) (sbz : BitVec 2) (s : State),
    (s.condT32Passes →
      exec (.t1I32D c2 d imm8) s = exec (.a1I32D c2 d imm8) s ∧
      exec (.t1I32Q c2 d imm8) s = exec (.a1I32Q c2 d imm8) s ∧
      exec (.t3I16D c1 d imm8) s = exec (.a3I16D c1 d imm8) s ∧
      exec (.t3I16Q c1 d imm8) s = exec (.a3I16Q c1 d imm8) s ∧
      exec (.t4I32D c1 d imm8) s = exec (.a4I32D c1 d imm8) s ∧
      exec (.t4I32Q c1 d imm8) s = exec (.a4I32Q c1 d imm8) s ∧
      exec (.t4I8D d imm8) s = exec (.a4I8D d imm8) s ∧
      exec (.t4I8Q d imm8) s = exec (.a4I8Q d imm8) s ∧
      exec (.t4F32D d imm8) s = exec (.a4F32D d imm8) s ∧
      exec (.t4F32Q d imm8) s = exec (.a4F32Q d imm8) s ∧
      exec (.t5I64D d imm8) s = exec (.a5I64D d imm8) s ∧
      exec (.t5I64Q d imm8) s = exec (.a5I64Q d imm8) s) ∧
    exec (.t2F32 d imm8 sbz) s = exec (.a2F32 (condT32 s.itstate) d imm8 sbz) s ∧
    exec (.t2F64 d imm8 sbz) s = exec (.a2F64 (condT32 s.itstate) d imm8 sbz) s ∧
    exec (.t2Size00 d imm8 sbz) s = exec (.a2Size00 (condT32 s.itstate) d imm8 sbz) s ∧
    (inITBlock s.itstate = false → exec (.t2F16 d imm8 sbz) s = exec (.a2F16 (condT32 s.itstate) d imm8 sbz) s)

/-- 30_encoding.md R111, and the two spellings of all ones of 95_test_vectors.md (V11, V17). -/
def Obligations.OneConstantHasSeveralEncodings : Prop :=
  ∀ (d : BitVec 5) (s : State), s.config.expandSimd = .adopted →
    (∀ c : BitVec 2, exec (.a1I32D c d 0x00#8) s = exec (.a1I32D 0 d 0x00#8) s) ∧
    exec (.a1I32D 0 d 0xFF#8) s = exec (.a4I32D 0 d 0x00#8) s ∧
    (∀ c : BitVec 1, exec (.a3I16D c d 0x00#8) s = exec (.a1I32D 0 d 0x00#8) s) ∧
    exec (.a4I8D d 0x00#8) s = exec (.a1I32D 0 d 0x00#8) s ∧
    exec (.a5I64D d 0x00#8) s = exec (.a1I32D 0 d 0x00#8) s ∧
    exec (.a4I8D d 0xFF#8) s = exec (.a5I64D d 0xFF#8) s

/-- 10_state.md R31, the spec's decision D11 (log 22). -/
def Obligations.SingleRegistersAreHalvesOfDoubleRegisters : Prop :=
  ∀ (n : Nat) (v : Word) (s : State), n < 32 →
    (n % 2 = 0 → readS n s = (readD (n / 2) s).extractLsb' 0 32) ∧
    (n % 2 = 1 → readS n s = (readD (n / 2) s).extractLsb' 32 32) ∧
    readS n (writeS n v s) = v ∧
    (∀ m, m < 32 → m ≠ n → readS m (writeS n v s) = readS m s) ∧
    (∀ k, k ≠ n / 2 → readD k (writeS n v s) = readD k s) ∧
    { writeS n v s with simd := s.simd } = s ∧
    (∀ (dBit : BitVec 1) (vd : BitVec 4), (regNumberS dBit vd).toNat = 2 * vd.toNat + dBit.toNat)

/-- 40_vmov_imm_operation.md R125: `for r = 0 to regs-1: D[d+r] <- imm`. -/
def Obligations.DoublewordDestinationsAreWritten : Prop :=
  (∀ (k : DecodeConstants) (s : State), 32 < k.esize → k.d + k.regs ≤ 32 →
      (∀ r < k.regs, readD (k.d + r) (writeDestination k s) = k.imm) ∧
      (∀ m, (∀ r < k.regs, m ≠ k.d + r) → readD m (writeDestination k s) = readD m s) ∧
      { writeDestination k s with simd := s.simd } = s ∧
      (k.regs = 1 → writeDestination k s = writeD k.d k.imm s) ∧
      (k.regs = 2 → writeDestination k s = writeD (k.d + 1) k.imm (writeD k.d k.imm s) ∧
        writeDestination k s = writeD k.d k.imm (writeD (k.d + 1) k.imm s) ∧
        (k.d % 2 = 0 → readQ (k.d / 2) (writeDestination k s) = k.imm ++ k.imm))) ∧
    (∀ (cfg : Config) (op : BitVec 1) (cmode : BitVec 4) (q : BitVec 1) (d : BitVec 5) (imm8 : BitVec 8) (k : DecodeConstants),
      simdVerdict cfg op cmode q d imm8 = .ok k →
        k.esize = 64 ∧ k.regs = (if q = 0b1#1 then 2 else 1) ∧ k.d = d.toNat ∧ k.d + k.regs ≤ 32) ∧
    (∀ (size : BitVec 2) (d : BitVec 5) (imm8 : BitVec 8) (b : Bool) (s : State) (k : DecodeConstants),
      fpVerdict size d imm8 b s = .ok k → (32 < k.esize ↔ size = 0b11#2) ∧ (size = 0b11#2 → k.regs = 1))

/-- 30_encoding.md R88, both sides multiplied by powers of two. -/
def Obligations.FloatingConstantsDenoteTheSameNumber : Prop :=
  ∀ (cfg : Config) (imm8 : BitVec 8), cfg.expandVfp = .adopted →
    let x16 := vfpExpand16 cfg imm8
    let x32 := vfpExpand32 cfg imm8
    let x64 := vfpExpand64 cfg imm8
    let magnitude : Nat := (16 + (imm8.extractLsb' 0 4).toNat) * 2 ^ (~~~(imm8.extractLsb' 6 1) ++ imm8.extractLsb' 4 2).toNat
    (x16.extractLsb' 15 1 = imm8.extractLsb' 7 1 ∧ x32.extractLsb' 31 1 = imm8.extractLsb' 7 1 ∧
      x64.extractLsb' 63 1 = imm8.extractLsb' 7 1) ∧
    (x16.extractLsb' 10 5 ≠ 0#5 ∧ x16.extractLsb' 10 5 ≠ 31#5 ∧ x32.extractLsb' 23 8 ≠ 0#8 ∧ x32.extractLsb' 23 8 ≠ 255#8 ∧
      x64.extractLsb' 52 11 ≠ 0#11 ∧ x64.extractLsb' 52 11 ≠ 2047#11) ∧
    (2 ^ 10 + (x16.extractLsb' 0 10).toNat) * 2 ^ (x16.extractLsb' 10 5).toNat = magnitude * 2 ^ (15 + 10 - 7) ∧
    (2 ^ 23 + (x32.extractLsb' 0 23).toNat) * 2 ^ (x32.extractLsb' 23 8).toNat = magnitude * 2 ^ (127 + 23 - 7) ∧
    (2 ^ 52 + (x64.extractLsb' 0 52).toNat) * 2 ^ (x64.extractLsb' 52 11).toNat = magnitude * 2 ^ (1023 + 52 - 7)

/-- 10_state.md R38, and the table of 95_test_vectors.md section 2.6. -/
def Obligations.ConditionTable : Prop :=
  ∀ f : Flags,
    conditionPassed 0b0000#4 f = f.z ∧ conditionPassed 0b0001#4 f = !f.z ∧ conditionPassed 0b0010#4 f = f.c ∧
    conditionPassed 0b0011#4 f = !f.c ∧ conditionPassed 0b0100#4 f = f.n ∧ conditionPassed 0b0101#4 f = !f.n ∧
    conditionPassed 0b0110#4 f = f.v ∧ conditionPassed 0b0111#4 f = !f.v ∧
    conditionPassed 0b1000#4 f = (f.c && !f.z) ∧ conditionPassed 0b1001#4 f = (!f.c || f.z) ∧
    conditionPassed 0b1010#4 f = (f.n == f.v) ∧ conditionPassed 0b1011#4 f = (f.n != f.v) ∧
    conditionPassed 0b1100#4 f = (f.n == f.v && !f.z) ∧ conditionPassed 0b1101#4 f = (f.n != f.v || f.z) ∧
    conditionPassed 0b1110#4 f = true ∧ conditionPassed 0b1111#4 f = true

/-- 10_state.md R39 and "the up to four instructions following an IT instruction" (00_scope.md R26). -/
def Obligations.ItBlockEndsWithinFourInstructions : Prop :=
  ∀ it : BitVec 8,
    (inITBlock it = true → condT32 it = it.extractLsb' 4 4) ∧ (inITBlock it = false → condT32 it = 0b1110#4) ∧
    (inITBlock (itAdvance it) = true → (itAdvance it).extractLsb' 5 3 = it.extractLsb' 5 3) ∧
    (it.extractLsb' 0 3 = 0b000#3 → itAdvance it = 0#8) ∧
    inITBlock (itAdvance (itAdvance (itAdvance (itAdvance it)))) = false

/-- 60_exceptions.md R153 by cases, under the model's PRESUMED instance (log 2); cp10 = '10' is left free (log 3). -/
def Obligations.OutlineOfTheEnableCheck : Prop :=
  ∀ (el3 el2 : Bool) (ctl : ControlState) (advsimd : Bool),
    let ns : Prop := ctl.security = .nonsecure
    let asedis : Prop := ctl.cpacr.asedis = 1#1 ∨ (el3 = true ∧ ns ∧ ctl.nsacr.nsasedis = 1#1)
    let closed : Prop := el3 = true ∧ ns ∧ ctl.nsacr.cp10 = 0#1
    let denied : Prop := ctl.mode ≠ .hyp ∧ ((advsimd = true ∧ asedis) ∨ closed ∨ ctl.cpacr.cp10 = 0b00#2 ∨
      (ctl.cpacr.cp10 = 0b01#2 ∧ ctl.mode = .user))
    let reserved : Prop := ctl.mode ≠ .hyp ∧ ctl.cpacr.cp10 = 0b10#2
    let trapped : Prop := el2 = true ∧ ns ∧
      ((advsimd = true ∧ (ctl.hcptr.tase = 1#1 ∨ (el3 = true ∧ ctl.nsacr.nsasedis = 1#1))) ∨
        ctl.hcptr.tcp10 = 1#1 ∨ (el3 = true ∧ ctl.nsacr.cp10 = 0#1))
    let answer := accessOutline el3 el2 ctl advsimd
    (denied → answer = .undefined) ∧
    (ctl.fpexc.en = 0#1 → answer = .undefined) ∧
    (¬ denied → ¬ reserved → ctl.fpexc.en = 1#1 → ¬ trapped → answer = .enabled) ∧
    (¬ denied → ¬ reserved → ctl.fpexc.en = 1#1 → trapped → ctl.mode = .hyp → answer = .undefined) ∧
    (¬ denied → ¬ reserved → ctl.fpexc.en = 1#1 → trapped → ctl.mode ≠ .hyp → answer = .hypTrap)

/-- A whole-machine rule from 60_exceptions.md R153 and R151, under the model's PRESUMED instance (log 2). -/
def Obligations.HypTrapNeedsNonsecureStateOutsideHypMode : Prop :=
  ∀ (i : Instr) (s : State) (el3 el2 : Bool), s.config.access = .outline el3 el2 → exec i s = .fault .hypTrap →
    el2 = true ∧ s.ctl.security = .nonsecure ∧ s.ctl.mode ≠ .hyp ∧ s.ctl.fpexc.en = 1#1 ∧
      ((advsimdOf i = true ∧ (s.ctl.hcptr.tase = 1#1 ∨ (el3 = true ∧ s.ctl.nsacr.nsasedis = 1#1))) ∨
        s.ctl.hcptr.tcp10 = 1#1 ∨ (el3 = true ∧ s.ctl.nsacr.cp10 = 0#1))

/-- 30_encoding.md R104 to R106. -/
def Obligations.AssembledNameIsTheEncodedRegister : Prop :=
  ∀ (cfg : Config) (i : Instr) (it : BitVec 8) (l : AsmLine), disassemble cfg it i = some l →
    (encode i).extractLsb' 22 1 = l.dest.dBit ∧ (encode i).extractLsb' 12 4 = l.dest.vd

/-- 30_encoding.md R108: the constant "is replicated to fill the destination register". -/
def Obligations.LineElementFillsTheDestination : Prop :=
  ∀ (i : Instr) (s t : State) (l : AsmLine) (e : DWord), disassemble s.config s.itstate i = some l → l.imm = .int e →
    conditionPassed l.cond s.flags = true → exec i s = .next t →
    let fill : DWord := match l.dt with
      | .i8 => replicate8 (e.setWidth 8)
      | .i16 => replicate16 (e.setWidth 16)
      | .i32 => replicate32 (e.setWidth 32)
      | _ => e
    match l.dest with
    | .d n => readD n.toNat t = fill
    | .q n => readQ n.toNat t = fill ++ fill
    | .s _ => False

/-- 30_encoding.md R102, R103. -/
def Obligations.AssemblerRefusesWhatIsNotALine : Prop :=
  ∀ (cfg : Config) (it : BitVec 8) (l : AsmLine) (i : Instr),
    (l.qualifier = .narrow → assembles cfg it l i = false) ∧
    (l.qualifier = .omitted → assembles cfg it { l with qualifier := .wide } i = assembles cfg it l i) ∧
    (∀ cond d imm8 sbz, cond ≠ 0b1110#4 → assembles cfg it l (.a2F16 cond d imm8 sbz) = false) ∧
    (∀ d imm8 sbz, inITBlock it = true → assembles cfg it l (.t2F16 d imm8 sbz) = false) ∧
    (advsimdOf i = true → i.iset = .a32 → l.cond ≠ 0b1110#4 → assembles cfg it l i = false)

/-- The invariant of 20_memory.md R63 ("the advance by 4 preserves either alignment") and 10_state.md R39. -/
def Obligations.EveryStepKeepsTheStateLegal : Prop :=
  ∀ s t : State, s.legal → step s = .next t → t.legal

/-- The frame of a step (10_state.md R48, R33, 40_vmov_imm_operation.md R115, 20_memory.md R70). -/
def Obligations.EveryStepChangesOnlyRegistersPcAndItstate : Prop :=
  ∀ s t : State, step s = .next t →
    ∃ (bytes rest : List Byte) (i : Instr), fetch s = .ok bytes ∧
      decodeBytes s.iset s.config.fetchByteOrder bytes = .ok (i, rest) ∧
      sameOutside s t ∧ t.pc = s.pc + 4#32 ∧ t.itstate = itAfter s ∧
      ∀ h < 64, h ∉ writtenHalves i → readHalf h t = readHalf h s

/-- The start state, whose values are the model's choice (log 6), is legal. -/
def Obligations.ResetStateIsLegal : Prop :=
  State.reset.legal

/-- The model's choices of logs 7 and 8, beside 70_reset_and_hazards.md R176. -/
def Obligations.OutlineDisablesTheUnitInTheResetControlState : Prop :=
  (∀ el3 el2 advsimd : Bool, accessOutline el3 el2 State.reset.ctl advsimd = .undefined) ∧
    ∀ advsimd : Bool, fpSimdAccess State.reset.config State.reset.ctl advsimd = .enabled

/-- 30_encoding.md R86, constraint 2, and R108: the constant "is replicated to fill the destination register". -/
def Obligations.ExpandedConstantIsOneReplicatedElement : Prop :=
  ∀ (cfg : Config) (c2 : BitVec 2) (c1 : BitVec 1) (imm8 : BitVec 8),
    (∃ e : Word, simdExpand cfg 0b0#1 (0b0#1 ++ c2 ++ 0b0#1) imm8 = replicate32 e) ∧
    (∃ e : Half, simdExpand cfg 0b0#1 (0b10#2 ++ c1 ++ 0b0#1) imm8 = replicate16 e) ∧
    (∃ e : Word, simdExpand cfg 0b0#1 (0b110#3 ++ c1) imm8 = replicate32 e) ∧
    (∃ e : Byte, simdExpand cfg 0b0#1 0b1110#4 imm8 = replicate8 e) ∧
    (∃ e : Word, simdExpand cfg 0b0#1 0b1111#4 imm8 = replicate32 e)
end

