-- ==== Sys2Proof/Laws/Memory.lean ====
section
/-! SUPPORT. The laws of memory: read after write, and that every operation keeps the canonical form. -/

namespace Sys2Proof.Machine

theorem Memory.read_write_same (m : Memory) (a : Nat) (b : Byte) : (m.write a b).read a = some b := by
  induction m with
  | nil => simp [Memory.write, Memory.read]
  | cons c rest ih =>
    obtain ⟨a', b'⟩ := c
    simp only [Memory.write]
    split
    · simp [Memory.read]
    · split
      · simp [Memory.read]
      · next hne => simp [Memory.read, hne, ih]

theorem Memory.read_write_other (m : Memory) (a x : Nat) (b : Byte) (h : x ≠ a) : (m.write a b).read x = m.read x := by
  induction m with
  | nil => simp [Memory.write, Memory.read, h]
  | cons c rest ih =>
    obtain ⟨a', b'⟩ := c
    simp only [Memory.write]
    split
    · simp [Memory.read, h]
    · split
      · next heq => subst heq; simp [Memory.read, h]
      · simp [Memory.read, ih]

theorem Memory.wfFrom_mono (m : Memory) (low low' : Nat) (hle : low' ≤ low) (h : Memory.wfFrom low m = true) :
    Memory.wfFrom low' m = true := by
  cases m with
  | nil => rfl
  | cons c rest =>
    obtain ⟨a, b⟩ := c
    simp only [Memory.wfFrom, Bool.and_eq_true, decide_eq_true_eq] at h ⊢
    exact ⟨⟨by omega, h.1.2⟩, h.2⟩

theorem Memory.wfFrom_write (m : Memory) (low a : Nat) (b : Byte) (hlow : low ≤ a) (ha : a < 2 ^ 32)
    (h : Memory.wfFrom low m = true) : Memory.wfFrom low (m.write a b) = true := by
  induction m generalizing low with
  | nil =>
    simp only [Memory.write, Memory.wfFrom, Bool.and_eq_true, decide_eq_true_eq]
    exact ⟨⟨hlow, ha⟩, trivial⟩
  | cons c rest ih =>
    obtain ⟨a', b'⟩ := c
    simp only [Memory.wfFrom, Bool.and_eq_true, decide_eq_true_eq] at h
    simp only [Memory.write]
    split
    · next hlt =>
      simp only [Memory.wfFrom, Bool.and_eq_true, decide_eq_true_eq]
      exact ⟨⟨hlow, ha⟩, ⟨by omega, h.1.2⟩, h.2⟩
    · split
      · next heq =>
        subst heq
        simp only [Memory.wfFrom, Bool.and_eq_true, decide_eq_true_eq]
        exact ⟨⟨hlow, ha⟩, h.2⟩
      · simp only [Memory.wfFrom, Bool.and_eq_true, decide_eq_true_eq]
        exact ⟨h.1, ih (a' + 1) (by omega) h.2⟩

/-- Writing one byte inside the 32-bit space keeps the canonical form. -/
theorem Memory.wf_write (m : Memory) (a : Nat) (b : Byte) (ha : a < 2 ^ 32) (h : m.wf = true) : (m.write a b).wf = true :=
  Memory.wfFrom_write m 0 a b (Nat.zero_le a) ha h

/-- Writing bytes from an address on keeps the canonical form. -/
theorem Memory.wf_writeBytes (m : Memory) (pc : Word) (bs : List Byte) (h : m.wf = true) :
    (m.writeBytes pc bs).wf = true := by
  induction bs generalizing m pc with
  | nil => exact h
  | cons b rest ih => exact ih _ _ (Memory.wf_write m pc.toNat b pc.isLt h)

/-- Placing a word for the fetch keeps the canonical form. -/
theorem placeWord_mem_wf (s : State) (w : Word) (h : s.mem.wf = true) : (placeWord s w).mem.wf = true :=
  Memory.wf_writeBytes _ _ _ h

/-- The four bytes that stand from `pc` on are what the fetch reads, the lowest address first. -/
theorem fetchBytes_four {m : Memory} {pc : Word} {b0 b1 b2 b3 : Byte} (h0 : m.read pc.toNat = some b0)
    (h1 : m.read (pc + 1#32).toNat = some b1) (h2 : m.read (pc + 2#32).toNat = some b2)
    (h3 : m.read (pc + 3#32).toNat = some b3) :
    fetchBytes m 4 pc = .ok [b0, b1, b2, b3] ∧ fetchBytes m 2 pc = .ok [b0, b1] := by
  have e2 : pc + 1#32 + 1#32 = pc + 2#32 := by rw [BitVec.add_assoc]; rfl
  have e3 : pc + 2#32 + 1#32 = pc + 3#32 := by rw [BitVec.add_assoc]; rfl
  simp only [fetchBytes, h0, h1, h2, h3, e2, e3, and_self]

/-- Memory at the start state has the canonical form. -/
theorem reset_mem_wf : State.reset.mem.wf = true := rfl

end Sys2Proof.Machine
end

