-- ==== Sys2Proof/Laws/State.lean ====
section
/-! SUPPORT. One lemma per field per update of the state. -/

namespace Sys2Proof.Machine

/-! ### writeD -/

@[simp] theorem writeD_simd (n : Nat) (v : DWord) (s : State) : (writeD n v s).simd = s.simd.setIfInBounds n v := rfl
@[simp] theorem writeD_config (n : Nat) (v : DWord) (s : State) : (writeD n v s).config = s.config := rfl
@[simp] theorem writeD_gpr (n : Nat) (v : DWord) (s : State) : (writeD n v s).gpr = s.gpr := rfl
@[simp] theorem writeD_pc (n : Nat) (v : DWord) (s : State) : (writeD n v s).pc = s.pc := rfl
@[simp] theorem writeD_iset (n : Nat) (v : DWord) (s : State) : (writeD n v s).iset = s.iset := rfl
@[simp] theorem writeD_flags (n : Nat) (v : DWord) (s : State) : (writeD n v s).flags = s.flags := rfl
@[simp] theorem writeD_itstate (n : Nat) (v : DWord) (s : State) : (writeD n v s).itstate = s.itstate := rfl
@[simp] theorem writeD_fpscr (n : Nat) (v : DWord) (s : State) : (writeD n v s).fpscr = s.fpscr := rfl
@[simp] theorem writeD_ctl (n : Nat) (v : DWord) (s : State) : (writeD n v s).ctl = s.ctl := rfl
@[simp] theorem writeD_dit (n : Nat) (v : DWord) (s : State) : (writeD n v s).dit = s.dit := rfl
@[simp] theorem writeD_mem (n : Nat) (v : DWord) (s : State) : (writeD n v s).mem = s.mem := rfl
@[simp] theorem writeD_choices (n : Nat) (v : DWord) (s : State) : (writeD n v s).choices = s.choices := rfl

/-! ### writeS -/

@[simp] theorem writeS_config (n : Nat) (v : Word) (s : State) : (writeS n v s).config = s.config := by
  unfold writeS; split <;> rfl
@[simp] theorem writeS_gpr (n : Nat) (v : Word) (s : State) : (writeS n v s).gpr = s.gpr := by
  unfold writeS; split <;> rfl
@[simp] theorem writeS_pc (n : Nat) (v : Word) (s : State) : (writeS n v s).pc = s.pc := by
  unfold writeS; split <;> rfl
@[simp] theorem writeS_iset (n : Nat) (v : Word) (s : State) : (writeS n v s).iset = s.iset := by
  unfold writeS; split <;> rfl
@[simp] theorem writeS_flags (n : Nat) (v : Word) (s : State) : (writeS n v s).flags = s.flags := by
  unfold writeS; split <;> rfl
@[simp] theorem writeS_itstate (n : Nat) (v : Word) (s : State) : (writeS n v s).itstate = s.itstate := by
  unfold writeS; split <;> rfl
@[simp] theorem writeS_fpscr (n : Nat) (v : Word) (s : State) : (writeS n v s).fpscr = s.fpscr := by
  unfold writeS; split <;> rfl
@[simp] theorem writeS_ctl (n : Nat) (v : Word) (s : State) : (writeS n v s).ctl = s.ctl := by
  unfold writeS; split <;> rfl
@[simp] theorem writeS_dit (n : Nat) (v : Word) (s : State) : (writeS n v s).dit = s.dit := by
  unfold writeS; split <;> rfl
@[simp] theorem writeS_mem (n : Nat) (v : Word) (s : State) : (writeS n v s).mem = s.mem := by
  unfold writeS; split <;> rfl
@[simp] theorem writeS_choices (n : Nat) (v : Word) (s : State) : (writeS n v s).choices = s.choices := by
  unfold writeS; split <;> rfl

/-! ### writeDs -/

@[simp] theorem writeDs_config (d : Nat) (imm : DWord) (regs : Nat) (s : State) : (writeDs d imm regs s).config = s.config := by
  induction regs with
  | zero => rfl
  | succ r ih => simpa [writeDs] using ih
@[simp] theorem writeDs_gpr (d : Nat) (imm : DWord) (regs : Nat) (s : State) : (writeDs d imm regs s).gpr = s.gpr := by
  induction regs with
  | zero => rfl
  | succ r ih => simpa [writeDs] using ih
@[simp] theorem writeDs_pc (d : Nat) (imm : DWord) (regs : Nat) (s : State) : (writeDs d imm regs s).pc = s.pc := by
  induction regs with
  | zero => rfl
  | succ r ih => simpa [writeDs] using ih
@[simp] theorem writeDs_iset (d : Nat) (imm : DWord) (regs : Nat) (s : State) : (writeDs d imm regs s).iset = s.iset := by
  induction regs with
  | zero => rfl
  | succ r ih => simpa [writeDs] using ih
@[simp] theorem writeDs_flags (d : Nat) (imm : DWord) (regs : Nat) (s : State) : (writeDs d imm regs s).flags = s.flags := by
  induction regs with
  | zero => rfl
  | succ r ih => simpa [writeDs] using ih
@[simp] theorem writeDs_itstate (d : Nat) (imm : DWord) (regs : Nat) (s : State) : (writeDs d imm regs s).itstate = s.itstate := by
  induction regs with
  | zero => rfl
  | succ r ih => simpa [writeDs] using ih
@[simp] theorem writeDs_fpscr (d : Nat) (imm : DWord) (regs : Nat) (s : State) : (writeDs d imm regs s).fpscr = s.fpscr := by
  induction regs with
  | zero => rfl
  | succ r ih => simpa [writeDs] using ih
@[simp] theorem writeDs_ctl (d : Nat) (imm : DWord) (regs : Nat) (s : State) : (writeDs d imm regs s).ctl = s.ctl := by
  induction regs with
  | zero => rfl
  | succ r ih => simpa [writeDs] using ih
@[simp] theorem writeDs_dit (d : Nat) (imm : DWord) (regs : Nat) (s : State) : (writeDs d imm regs s).dit = s.dit := by
  induction regs with
  | zero => rfl
  | succ r ih => simpa [writeDs] using ih
@[simp] theorem writeDs_mem (d : Nat) (imm : DWord) (regs : Nat) (s : State) : (writeDs d imm regs s).mem = s.mem := by
  induction regs with
  | zero => rfl
  | succ r ih => simpa [writeDs] using ih
@[simp] theorem writeDs_choices (d : Nat) (imm : DWord) (regs : Nat) (s : State) : (writeDs d imm regs s).choices = s.choices := by
  induction regs with
  | zero => rfl
  | succ r ih => simpa [writeDs] using ih

/-! ### writeDestination -/

@[simp] theorem writeDestination_config (k : DecodeConstants) (s : State) : (writeDestination k s).config = s.config := by
  unfold writeDestination; split <;> simp
@[simp] theorem writeDestination_gpr (k : DecodeConstants) (s : State) : (writeDestination k s).gpr = s.gpr := by
  unfold writeDestination; split <;> simp
@[simp] theorem writeDestination_pc (k : DecodeConstants) (s : State) : (writeDestination k s).pc = s.pc := by
  unfold writeDestination; split <;> simp
@[simp] theorem writeDestination_iset (k : DecodeConstants) (s : State) : (writeDestination k s).iset = s.iset := by
  unfold writeDestination; split <;> simp
@[simp] theorem writeDestination_flags (k : DecodeConstants) (s : State) : (writeDestination k s).flags = s.flags := by
  unfold writeDestination; split <;> simp
@[simp] theorem writeDestination_itstate (k : DecodeConstants) (s : State) : (writeDestination k s).itstate = s.itstate := by
  unfold writeDestination; split <;> simp
@[simp] theorem writeDestination_fpscr (k : DecodeConstants) (s : State) : (writeDestination k s).fpscr = s.fpscr := by
  unfold writeDestination; split <;> simp
@[simp] theorem writeDestination_ctl (k : DecodeConstants) (s : State) : (writeDestination k s).ctl = s.ctl := by
  unfold writeDestination; split <;> simp
@[simp] theorem writeDestination_dit (k : DecodeConstants) (s : State) : (writeDestination k s).dit = s.dit := by
  unfold writeDestination; split <;> simp
@[simp] theorem writeDestination_mem (k : DecodeConstants) (s : State) : (writeDestination k s).mem = s.mem := by
  unfold writeDestination; split <;> simp
@[simp] theorem writeDestination_choices (k : DecodeConstants) (s : State) : (writeDestination k s).choices = s.choices := by
  unfold writeDestination; split <;> simp

/-! ### advance -/

@[simp] theorem advance_pc (s : State) : (advance s).pc = s.pc + 4#32 := rfl
@[simp] theorem advance_itstate (s : State) : (advance s).itstate = itAfter s := rfl
@[simp] theorem advance_config (s : State) : (advance s).config = s.config := rfl
@[simp] theorem advance_simd (s : State) : (advance s).simd = s.simd := rfl
@[simp] theorem advance_gpr (s : State) : (advance s).gpr = s.gpr := rfl
@[simp] theorem advance_iset (s : State) : (advance s).iset = s.iset := rfl
@[simp] theorem advance_flags (s : State) : (advance s).flags = s.flags := rfl
@[simp] theorem advance_fpscr (s : State) : (advance s).fpscr = s.fpscr := rfl
@[simp] theorem advance_ctl (s : State) : (advance s).ctl = s.ctl := rfl
@[simp] theorem advance_dit (s : State) : (advance s).dit = s.dit := rfl
@[simp] theorem advance_mem (s : State) : (advance s).mem = s.mem := rfl
@[simp] theorem advance_choices (s : State) : (advance s).choices = s.choices := rfl

/-! ### consumeChoice -/

@[simp] theorem consumeChoice_choices (s : State) : (consumeChoice s).choices = s.choices + 1 := rfl
@[simp] theorem consumeChoice_config (s : State) : (consumeChoice s).config = s.config := rfl
@[simp] theorem consumeChoice_simd (s : State) : (consumeChoice s).simd = s.simd := rfl
@[simp] theorem consumeChoice_gpr (s : State) : (consumeChoice s).gpr = s.gpr := rfl
@[simp] theorem consumeChoice_pc (s : State) : (consumeChoice s).pc = s.pc := rfl
@[simp] theorem consumeChoice_iset (s : State) : (consumeChoice s).iset = s.iset := rfl
@[simp] theorem consumeChoice_flags (s : State) : (consumeChoice s).flags = s.flags := rfl
@[simp] theorem consumeChoice_itstate (s : State) : (consumeChoice s).itstate = s.itstate := rfl
@[simp] theorem consumeChoice_fpscr (s : State) : (consumeChoice s).fpscr = s.fpscr := rfl
@[simp] theorem consumeChoice_ctl (s : State) : (consumeChoice s).ctl = s.ctl := rfl
@[simp] theorem consumeChoice_dit (s : State) : (consumeChoice s).dit = s.dit := rfl
@[simp] theorem consumeChoice_mem (s : State) : (consumeChoice s).mem = s.mem := rfl

/-! ### ITSTATE after an instruction reads the instruction set and ITSTATE only -/

theorem itAfter_congr (s t : State) (hi : t.iset = s.iset) (ht : t.itstate = s.itstate) : itAfter t = itAfter s := by
  unfold itAfter; rw [hi, ht]

@[simp] theorem itAfter_writeDestination (k : DecodeConstants) (s : State) : itAfter (writeDestination k s) = itAfter s :=
  itAfter_congr s _ (by simp) (by simp)

@[simp] theorem itAfter_consumeChoice (s : State) : itAfter (consumeChoice s) = itAfter s := rfl

end Sys2Proof.Machine
end

