-- ==== Sys2Proof/Laws/Ops.lean ====
section
/-! SUPPORT. One lemma per shared operation that says once everything it can do when it answers a next state. -/

namespace Sys2Proof.Machine

/-- What one instruction can do to a state: the write of a destination or none, with or without a consumed free choice,
and then the advance. -/
inductive Completes (s : State) : State → Prop where
  | written (k : DecodeConstants) (h : fpSimdAccess s.config s.ctl k.advsimd = .enabled) :
      Completes s (advance (writeDestination k s))
  | skipped : Completes s (advance s)
  | chosenWritten (k : DecodeConstants) (h : fpSimdAccess s.config s.ctl k.advsimd = .enabled) :
      Completes s (advance (writeDestination k (consumeChoice s)))
  | chosenSkipped : Completes s (advance (consumeChoice s))

theorem execute_next {k : DecodeConstants} {s t : State} (h : execute k s = .next t) :
    fpSimdAccess s.config s.ctl k.advsimd = .enabled ∧ t = advance (writeDestination k s) := by
  unfold execute raise at h
  split at h
  · cases h
  · cases h
  · next he => exact ⟨he, by cases h; rfl⟩

theorem execute_enabled {k : DecodeConstants} {s : State} (h : fpSimdAccess s.config s.ctl k.advsimd = .enabled) :
    execute k s = .next (advance (writeDestination k s)) := by
  unfold execute; rw [h]

theorem conditionFailed_next {u : Bool} {s t : State} (h : conditionFailed u s = .next t) :
    t = advance s ∨ t = advance (consumeChoice s) := by
  unfold conditionFailed nop raise at h
  split at h
  · split at h
    · cases h
    · cases h; exact .inr rfl
  · cases h; exact .inl rfl

theorem constrainedUnpredictable_next {k : DecodeConstants} {s t : State} (h : constrainedUnpredictable k s = .next t) :
    (fpSimdAccess s.config s.ctl k.advsimd = .enabled ∧ t = advance (writeDestination k (consumeChoice s))) ∨
      t = advance (consumeChoice s) := by
  unfold constrainedUnpredictable nop raise at h
  split at h
  · cases h
  · exact .inl (execute_next h)
  · cases h; exact .inr rfl

/-- Everything the common operation can do when it answers a next state. -/
theorem operate_next {cond : BitVec 4} {v : Verdict} {s t : State} (h : operate cond v s = .next t) : Completes s t := by
  have failed : ∀ u, conditionFailed u s = .next t → Completes s t := fun u hu => by
    rcases conditionFailed_next hu with rfl | rfl
    · exact .skipped
    · exact .chosenSkipped
  unfold operate at h
  split at h
  · next k =>
    rcases constrainedUnpredictable_next h with ⟨he, rfl⟩ | rfl
    · exact .chosenWritten k he
    · exact .chosenSkipped
  · split at h
    · cases h
    · exact failed _ h
  · next k =>
    split at h
    · obtain ⟨he, rfl⟩ := execute_next h
      exact .written k he
    · exact failed _ h

/-- Everything A2 and T2 can do when they answer a next state. -/
theorem operateSbz_next {sbz : BitVec 2} {cond : BitVec 4} {v : Verdict} {s t : State}
    (h : operateSbz sbz cond v s = .next t) : Completes s t := by
  unfold operateSbz at h
  split at h
  · cases h
  · exact operate_next h

/-- What every completed instruction leaves alone, and the advance of `pc` and ITSTATE. -/
theorem Completes.frame {s t : State} (h : Completes s t) :
    t.config = s.config ∧ t.gpr = s.gpr ∧ t.iset = s.iset ∧ t.flags = s.flags ∧ t.fpscr = s.fpscr ∧ t.ctl = s.ctl ∧
      t.dit = s.dit ∧ t.mem = s.mem ∧ t.pc = s.pc + 4#32 ∧ t.itstate = itAfter s := by
  cases h <;> simp

theorem readD_writeD_same {n : Nat} {v : DWord} {s : State} (h : n < 32) : readD n (writeD n v s) = v := by
  simp [readD, writeD, Vector.getD, h]

theorem readD_writeD_other {n m : Nat} {v : DWord} {s : State} (h : m ≠ n) : readD m (writeD n v s) = readD m s := by
  simp [readD, writeD, Vector.getD, Ne.symm h]

@[simp] theorem simdExpand_adopted {cfg : Config} (h : cfg.expandSimd = .adopted) (op : BitVec 1) (cmode : BitVec 4)
    (imm8 : BitVec 8) : simdExpand cfg op cmode imm8 = expandSimd op cmode imm8 := by
  unfold simdExpand; rw [h]

@[simp] theorem vfpExpand16_adopted {cfg : Config} (h : cfg.expandVfp = .adopted) (imm8 : BitVec 8) :
    vfpExpand16 cfg imm8 = expandVfp16 imm8 := by
  unfold vfpExpand16; rw [h]

@[simp] theorem vfpExpand32_adopted {cfg : Config} (h : cfg.expandVfp = .adopted) (imm8 : BitVec 8) :
    vfpExpand32 cfg imm8 = expandVfp32 imm8 := by
  unfold vfpExpand32; rw [h]

@[simp] theorem vfpExpand64_adopted {cfg : Config} (h : cfg.expandVfp = .adopted) (imm8 : BitVec 8) :
    vfpExpand64 cfg imm8 = expandVfp64 imm8 := by
  unfold vfpExpand64; rw [h]

/-- The condition "always" passes whatever the flags (10_state.md R38). -/
@[simp] theorem conditionPassed_always (f : Flags) : conditionPassed condAlways f = true := rfl

end Sys2Proof.Machine
end

