-- ==== Sys2Proof/Laws/PerInstr.lean ====
section
/-! SUPPORT. Statements for all instructions, one lemma per constructor: the encoder's words lie in the opcode table's rows. -/

namespace Sys2Proof.Laws.Encodable

/-- The mask and the match of an instruction's row of the opcode table. -/
def row : Instr → Word × Word
  | .a1I32D _ _ _ => (0xFEB809F0#32, 0xF2800010#32)
  | .a1I32Q _ _ _ => (0xFEB809F0#32, 0xF2800050#32)
  | .a3I16D _ _ _ => (0xFEB80DF0#32, 0xF2800810#32)
  | .a3I16Q _ _ _ => (0xFEB80DF0#32, 0xF2800850#32)
  | .a4I32D _ _ _ => (0xFEB80EF0#32, 0xF2800C10#32)
  | .a4I32Q _ _ _ => (0xFEB80EF0#32, 0xF2800C50#32)
  | .a4I8D _ _ => (0xFEB80FF0#32, 0xF2800E10#32)
  | .a4I8Q _ _ => (0xFEB80FF0#32, 0xF2800E50#32)
  | .a4F32D _ _ => (0xFEB80FF0#32, 0xF2800F10#32)
  | .a4F32Q _ _ => (0xFEB80FF0#32, 0xF2800F50#32)
  | .a5I64D _ _ => (0xFEB80FF0#32, 0xF2800E30#32)
  | .a5I64Q _ _ => (0xFEB80FF0#32, 0xF2800E70#32)
  | .a2F16 _ _ _ _ => (0x0FB00F50#32, 0x0EB00900#32)
  | .a2F32 _ _ _ _ => (0x0FB00F50#32, 0x0EB00A00#32)
  | .a2F64 _ _ _ _ => (0x0FB00F50#32, 0x0EB00B00#32)
  | .a2Size00 _ _ _ _ => (0x0FB00F50#32, 0x0EB00800#32)
  | .t1I32D _ _ _ => (0xEFB809F0#32, 0xEF800010#32)
  | .t1I32Q _ _ _ => (0xEFB809F0#32, 0xEF800050#32)
  | .t3I16D _ _ _ => (0xEFB80DF0#32, 0xEF800810#32)
  | .t3I16Q _ _ _ => (0xEFB80DF0#32, 0xEF800850#32)
  | .t4I32D _ _ _ => (0xEFB80EF0#32, 0xEF800C10#32)
  | .t4I32Q _ _ _ => (0xEFB80EF0#32, 0xEF800C50#32)
  | .t4I8D _ _ => (0xEFB80FF0#32, 0xEF800E10#32)
  | .t4I8Q _ _ => (0xEFB80FF0#32, 0xEF800E50#32)
  | .t4F32D _ _ => (0xEFB80FF0#32, 0xEF800F10#32)
  | .t4F32Q _ _ => (0xEFB80FF0#32, 0xEF800F50#32)
  | .t5I64D _ _ => (0xEFB80FF0#32, 0xEF800E30#32)
  | .t5I64Q _ _ => (0xEFB80FF0#32, 0xEF800E70#32)
  | .t2F16 _ _ _ => (0xFFB00F50#32, 0xEEB00900#32)
  | .t2F32 _ _ _ => (0xFFB00F50#32, 0xEEB00A00#32)
  | .t2F64 _ _ _ => (0xFFB00F50#32, 0xEEB00B00#32)
  | .t2Size00 _ _ _ => (0xFFB00F50#32, 0xEEB00800#32)

/-- The instruction's word has the fixed bits of its row. -/
def Statement (i : Instr) : Prop := encode i &&& (row i).1 = (row i).2

theorem a1I32D (c : BitVec 2) (d : BitVec 5) (imm8 : BitVec 8) : Statement (.a1I32D c d imm8) := by
  apply BitVec.eq_of_getLsbD_eq
  intro n hn
  simp only [row, encode, encodeSimdA32, BitVec.getLsbD_and, BitVec.getLsbD_append]
  interval_cases n <;> simp

theorem a1I32Q (c : BitVec 2) (d : BitVec 5) (imm8 : BitVec 8) : Statement (.a1I32Q c d imm8) := by
  apply BitVec.eq_of_getLsbD_eq
  intro n hn
  simp only [row, encode, encodeSimdA32, BitVec.getLsbD_and, BitVec.getLsbD_append]
  interval_cases n <;> simp

theorem a3I16D (c : BitVec 1) (d : BitVec 5) (imm8 : BitVec 8) : Statement (.a3I16D c d imm8) := by
  apply BitVec.eq_of_getLsbD_eq
  intro n hn
  simp only [row, encode, encodeSimdA32, BitVec.getLsbD_and, BitVec.getLsbD_append]
  interval_cases n <;> simp

theorem a3I16Q (c : BitVec 1) (d : BitVec 5) (imm8 : BitVec 8) : Statement (.a3I16Q c d imm8) := by
  apply BitVec.eq_of_getLsbD_eq
  intro n hn
  simp only [row, encode, encodeSimdA32, BitVec.getLsbD_and, BitVec.getLsbD_append]
  interval_cases n <;> simp

theorem a4I32D (c : BitVec 1) (d : BitVec 5) (imm8 : BitVec 8) : Statement (.a4I32D c d imm8) := by
  apply BitVec.eq_of_getLsbD_eq
  intro n hn
  simp only [row, encode, encodeSimdA32, BitVec.getLsbD_and, BitVec.getLsbD_append]
  interval_cases n <;> simp

theorem a4I32Q (c : BitVec 1) (d : BitVec 5) (imm8 : BitVec 8) : Statement (.a4I32Q c d imm8) := by
  apply BitVec.eq_of_getLsbD_eq
  intro n hn
  simp only [row, encode, encodeSimdA32, BitVec.getLsbD_and, BitVec.getLsbD_append]
  interval_cases n <;> simp

theorem a4I8D (d : BitVec 5) (imm8 : BitVec 8) : Statement (.a4I8D d imm8) := by
  apply BitVec.eq_of_getLsbD_eq
  intro n hn
  simp only [row, encode, encodeSimdA32, BitVec.getLsbD_and, BitVec.getLsbD_append]
  interval_cases n <;> simp

theorem a4I8Q (d : BitVec 5) (imm8 : BitVec 8) : Statement (.a4I8Q d imm8) := by
  apply BitVec.eq_of_getLsbD_eq
  intro n hn
  simp only [row, encode, encodeSimdA32, BitVec.getLsbD_and, BitVec.getLsbD_append]
  interval_cases n <;> simp

theorem a4F32D (d : BitVec 5) (imm8 : BitVec 8) : Statement (.a4F32D d imm8) := by
  apply BitVec.eq_of_getLsbD_eq
  intro n hn
  simp only [row, encode, encodeSimdA32, BitVec.getLsbD_and, BitVec.getLsbD_append]
  interval_cases n <;> simp

theorem a4F32Q (d : BitVec 5) (imm8 : BitVec 8) : Statement (.a4F32Q d imm8) := by
  apply BitVec.eq_of_getLsbD_eq
  intro n hn
  simp only [row, encode, encodeSimdA32, BitVec.getLsbD_and, BitVec.getLsbD_append]
  interval_cases n <;> simp

theorem a5I64D (d : BitVec 5) (imm8 : BitVec 8) : Statement (.a5I64D d imm8) := by
  apply BitVec.eq_of_getLsbD_eq
  intro n hn
  simp only [row, encode, encodeSimdA32, BitVec.getLsbD_and, BitVec.getLsbD_append]
  interval_cases n <;> simp

theorem a5I64Q (d : BitVec 5) (imm8 : BitVec 8) : Statement (.a5I64Q d imm8) := by
  apply BitVec.eq_of_getLsbD_eq
  intro n hn
  simp only [row, encode, encodeSimdA32, BitVec.getLsbD_and, BitVec.getLsbD_append]
  interval_cases n <;> simp

theorem a2F16 (cond : BitVec 4) (d : BitVec 5) (imm8 : BitVec 8) (sbz : BitVec 2) : Statement (.a2F16 cond d imm8 sbz) := by
  apply BitVec.eq_of_getLsbD_eq
  intro n hn
  simp only [row, encode, encodeFpA32, BitVec.getLsbD_and, BitVec.getLsbD_append]
  interval_cases n <;> simp

theorem a2F32 (cond : BitVec 4) (d : BitVec 5) (imm8 : BitVec 8) (sbz : BitVec 2) : Statement (.a2F32 cond d imm8 sbz) := by
  apply BitVec.eq_of_getLsbD_eq
  intro n hn
  simp only [row, encode, encodeFpA32, BitVec.getLsbD_and, BitVec.getLsbD_append]
  interval_cases n <;> simp

theorem a2F64 (cond : BitVec 4) (d : BitVec 5) (imm8 : BitVec 8) (sbz : BitVec 2) : Statement (.a2F64 cond d imm8 sbz) := by
  apply BitVec.eq_of_getLsbD_eq
  intro n hn
  simp only [row, encode, encodeFpA32, BitVec.getLsbD_and, BitVec.getLsbD_append]
  interval_cases n <;> simp

theorem a2Size00 (cond : BitVec 4) (d : BitVec 5) (imm8 : BitVec 8) (sbz : BitVec 2) : Statement (.a2Size00 cond d imm8 sbz) := by
  apply BitVec.eq_of_getLsbD_eq
  intro n hn
  simp only [row, encode, encodeFpA32, BitVec.getLsbD_and, BitVec.getLsbD_append]
  interval_cases n <;> simp

theorem t1I32D (c : BitVec 2) (d : BitVec 5) (imm8 : BitVec 8) : Statement (.t1I32D c d imm8) := by
  apply BitVec.eq_of_getLsbD_eq
  intro n hn
  simp only [row, encode, encodeSimdT32, BitVec.getLsbD_and, BitVec.getLsbD_append]
  interval_cases n <;> simp

theorem t1I32Q (c : BitVec 2) (d : BitVec 5) (imm8 : BitVec 8) : Statement (.t1I32Q c d imm8) := by
  apply BitVec.eq_of_getLsbD_eq
  intro n hn
  simp only [row, encode, encodeSimdT32, BitVec.getLsbD_and, BitVec.getLsbD_append]
  interval_cases n <;> simp

theorem t3I16D (c : BitVec 1) (d : BitVec 5) (imm8 : BitVec 8) : Statement (.t3I16D c d imm8) := by
  apply BitVec.eq_of_getLsbD_eq
  intro n hn
  simp only [row, encode, encodeSimdT32, BitVec.getLsbD_and, BitVec.getLsbD_append]
  interval_cases n <;> simp

theorem t3I16Q (c : BitVec 1) (d : BitVec 5) (imm8 : BitVec 8) : Statement (.t3I16Q c d imm8) := by
  apply BitVec.eq_of_getLsbD_eq
  intro n hn
  simp only [row, encode, encodeSimdT32, BitVec.getLsbD_and, BitVec.getLsbD_append]
  interval_cases n <;> simp

theorem t4I32D (c : BitVec 1) (d : BitVec 5) (imm8 : BitVec 8) : Statement (.t4I32D c d imm8) := by
  apply BitVec.eq_of_getLsbD_eq
  intro n hn
  simp only [row, encode, encodeSimdT32, BitVec.getLsbD_and, BitVec.getLsbD_append]
  interval_cases n <;> simp

theorem t4I32Q (c : BitVec 1) (d : BitVec 5) (imm8 : BitVec 8) : Statement (.t4I32Q c d imm8) := by
  apply BitVec.eq_of_getLsbD_eq
  intro n hn
  simp only [row, encode, encodeSimdT32, BitVec.getLsbD_and, BitVec.getLsbD_append]
  interval_cases n <;> simp

theorem t4I8D (d : BitVec 5) (imm8 : BitVec 8) : Statement (.t4I8D d imm8) := by
  apply BitVec.eq_of_getLsbD_eq
  intro n hn
  simp only [row, encode, encodeSimdT32, BitVec.getLsbD_and, BitVec.getLsbD_append]
  interval_cases n <;> simp

theorem t4I8Q (d : BitVec 5) (imm8 : BitVec 8) : Statement (.t4I8Q d imm8) := by
  apply BitVec.eq_of_getLsbD_eq
  intro n hn
  simp only [row, encode, encodeSimdT32, BitVec.getLsbD_and, BitVec.getLsbD_append]
  interval_cases n <;> simp

theorem t4F32D (d : BitVec 5) (imm8 : BitVec 8) : Statement (.t4F32D d imm8) := by
  apply BitVec.eq_of_getLsbD_eq
  intro n hn
  simp only [row, encode, encodeSimdT32, BitVec.getLsbD_and, BitVec.getLsbD_append]
  interval_cases n <;> simp

theorem t4F32Q (d : BitVec 5) (imm8 : BitVec 8) : Statement (.t4F32Q d imm8) := by
  apply BitVec.eq_of_getLsbD_eq
  intro n hn
  simp only [row, encode, encodeSimdT32, BitVec.getLsbD_and, BitVec.getLsbD_append]
  interval_cases n <;> simp

theorem t5I64D (d : BitVec 5) (imm8 : BitVec 8) : Statement (.t5I64D d imm8) := by
  apply BitVec.eq_of_getLsbD_eq
  intro n hn
  simp only [row, encode, encodeSimdT32, BitVec.getLsbD_and, BitVec.getLsbD_append]
  interval_cases n <;> simp

theorem t5I64Q (d : BitVec 5) (imm8 : BitVec 8) : Statement (.t5I64Q d imm8) := by
  apply BitVec.eq_of_getLsbD_eq
  intro n hn
  simp only [row, encode, encodeSimdT32, BitVec.getLsbD_and, BitVec.getLsbD_append]
  interval_cases n <;> simp

theorem t2F16 (d : BitVec 5) (imm8 : BitVec 8) (sbz : BitVec 2) : Statement (.t2F16 d imm8 sbz) := by
  apply BitVec.eq_of_getLsbD_eq
  intro n hn
  simp only [row, encode, encodeFpT32, BitVec.getLsbD_and, BitVec.getLsbD_append]
  interval_cases n <;> simp

theorem t2F32 (d : BitVec 5) (imm8 : BitVec 8) (sbz : BitVec 2) : Statement (.t2F32 d imm8 sbz) := by
  apply BitVec.eq_of_getLsbD_eq
  intro n hn
  simp only [row, encode, encodeFpT32, BitVec.getLsbD_and, BitVec.getLsbD_append]
  interval_cases n <;> simp

theorem t2F64 (d : BitVec 5) (imm8 : BitVec 8) (sbz : BitVec 2) : Statement (.t2F64 d imm8 sbz) := by
  apply BitVec.eq_of_getLsbD_eq
  intro n hn
  simp only [row, encode, encodeFpT32, BitVec.getLsbD_and, BitVec.getLsbD_append]
  interval_cases n <;> simp

theorem t2Size00 (d : BitVec 5) (imm8 : BitVec 8) (sbz : BitVec 2) : Statement (.t2Size00 d imm8 sbz) := by
  apply BitVec.eq_of_getLsbD_eq
  intro n hn
  simp only [row, encode, encodeFpT32, BitVec.getLsbD_and, BitVec.getLsbD_append]
  interval_cases n <;> simp

end Sys2Proof.Laws.Encodable
end

