-- ==== Sys2Proof/Laws/Step.lean ====
section
/-! SUPPORT. Everything an instruction, and a step, can do when it answers a next state. -/

namespace Sys2Proof.Machine

/-- Everything any instruction can do when it answers a next state. -/
theorem exec_next {i : Instr} {s t : State} (h : exec i s = .next t) : Completes s t := by
  cases i <;> simp only [exec,
    execA1I32D, execA1I32Q, execA3I16D, execA3I16Q, execA4I32D, execA4I32Q, execA4I8D, execA4I8Q, execA4F32D,
    execA4F32Q, execA5I64D, execA5I64Q, execT1I32D, execT1I32Q, execT3I16D, execT3I16Q, execT4I32D, execT4I32Q,
    execT4I8D, execT4I8Q, execT4F32D, execT4F32Q, execT5I64D, execT5I64Q] at h <;>
    first | exact operate_next h | exact operateSbz_next h

/-- A step that answers a next state is the execution of a decoded instruction at an aligned `pc`. -/
theorem step_next {s t : State} (h : step s = .next t) :
    pcAligned s.iset s.pc = true ∧ ∃ bytes rest i, fetch s = .ok bytes ∧
      decodeBytes s.iset s.config.fetchByteOrder bytes = .ok (i, rest) ∧ exec i s = .next t := by
  unfold step at h
  split at h
  · next ha =>
    split at h
    · cases h
    · next bytes hf =>
      split at h
      · cases h
      · next i rest hd => exact ⟨ha, bytes, rest, i, hf, hd, h⟩
  · cases h

end Sys2Proof.Machine
end

