-- ==== Sys2Proof/Tests/Slice0.lean ====
section
/-! SUPPORT. The model's own tests. A V number is a vector of 95_test_vectors.md, which are derived from the rules there. -/

namespace Sys2Proof.Tests

open Sys2Proof Sys2Proof.Machine

/-! ### Helpers -/

def nextOf : Host.Outcome State Fault Refusal → Option State
  | .next s => some s
  | .fault _ => none
  | .refused _ => none

def faultOf : Host.Outcome State Fault Refusal → Option Fault
  | .next _ => none
  | .fault f => some f
  | .refused _ => none

def refusalOf : Host.Outcome State Fault Refusal → Option Refusal
  | .next _ => none
  | .fault _ => none
  | .refused r => some r

/-- `D[n]` after the instruction, where it completes. -/
def dAfter (n : Nat) (o : Host.Outcome State Fault Refusal) : Option DWord := (nextOf o).map (readD n)

/-- `pc` after the instruction, where it completes. -/
def pcAfter (o : Host.Outcome State Fault Refusal) : Option Word := (nextOf o).map State.pc

def withD (n : Nat) (v : DWord) (s : State) : State := writeD n v s

/-- T32 state outside an IT block. -/
def inT32 : State := { State.reset with iset := .t32 }

/-- The last instruction of an IT EQ block; Z = 0, so the condition fails. -/
def inBlock : State := { inT32 with itstate := 0b00001000#8 }

def zSet : Flags := { n := false, z := true, c := false, v := false }

def noFp16 : State := { State.reset with config := { Config.testVectors with haveFP16 := false } }

def shortLen : State := { State.reset with fpscr := { len := 1#3, stride := 0#2, other := 0#27 } }

def shortStride : State := { State.reset with fpscr := { len := 0#3, stride := 3#2, other := 0#27 } }

def shortInBlock : State := { inBlock with fpscr := { len := 7#3, stride := 3#2, other := 0#27 } }

def sbzIgnored : State := { State.reset with config := { Config.testVectors with sbzPolicy := .ignore } }

def access (advSimd fp : Access) : State := { State.reset with config := { Config.testVectors with access := .given advSimd fp } }

/-- A failing condition in T32 state with `CondFailUndef` true. -/
def lax (fp : Access) : State :=
  { inBlock with config := { Config.testVectors with condFailUndef := true, access := .given .enabled fp } }

def laxShort : State := { lax .enabled with fpscr := { len := 1#3, stride := 0#2, other := 0#27 } }

def laxNoFp16 : State := { inBlock with config := { Config.testVectors with condFailUndef := true, haveFP16 := false } }

/-- Instances of `ExpandSimd` and `ExpandVfp` other than the adopted ones. -/
def otherExpansions : State := { State.reset with config := { Config.testVectors with expandSimd := .other, expandVfp := .other } }

/-- Non-secure Supervisor mode with every access control open. -/
def openCtl : ControlState :=
  { cpacr := { asedis := 0#1, cp10 := 0b11#2, cp11 := 0b11#2 }
    nsacr := { nsasedis := 0#1, cp10 := 1#1 }
    hcptr := { tase := 0#1, tcp10 := 0#1 }
    fpexc := { en := 1#1 }
    security := .nonsecure
    mode := .supervisor }

/-- The outline of the enable check as the parameter, with an Advanced SIMD trap to Hyp mode set. -/
def outlined (el3Aarch32 el2Implemented : Bool) : State :=
  { State.reset with
    config := { Config.testVectors with access := .outline el3Aarch32 el2Implemented }
    ctl := { openCtl with hcptr := { tase := 1#1, tcp10 := 0#1 } } }

/-- The start state with a word placed for the fetch. -/
def placed (w : Nat) : State := State.reset.withFetchWord 32 w

/-- The last word of the address space. -/
def atTop : State := State.withFetchWord { State.reset with pc := 0xFFFFFFFC#32 } 32 0xF2800010

/-! ### Well-formedness: A2 has no condition '1111' (30_encoding.md R98) -/

theorem test_ill_formed_a2F16 :
    (Instr.a2F16 0b1111#4 0 0 0).wellFormed = false ∧ (Instr.a2F16 0b1110#4 0 0 0).wellFormed = true := by decide

theorem test_ill_formed_a2F32 :
    (Instr.a2F32 0b1111#4 0 0 0).wellFormed = false ∧ (Instr.a2F32 0b1110#4 0 0 0).wellFormed = true := by decide

theorem test_ill_formed_a2F64 :
    (Instr.a2F64 0b1111#4 0 0 0).wellFormed = false ∧ (Instr.a2F64 0b1110#4 0 0 0).wellFormed = true := by decide

theorem test_ill_formed_a2Size00 :
    (Instr.a2Size00 0b1111#4 0 0 0).wellFormed = false ∧ (Instr.a2Size00 0b1110#4 0 0 0).wellFormed = true := by decide

/-! ### Decoding: each constructor, from a word of 95_test_vectors.md -/

/-- V6 -/
theorem test_decode_a1I32D :
    decodeWord .a32 0xF3C2F61B#32 = .ok (.a1I32D 3 31 0xAB) := by decide

/-- V5 -/
theorem test_decode_a1I32Q :
    decodeWord .a32 0xF3C2045B#32 = .ok (.a1I32Q 2 16 0xAB) := by decide

/-- V7 -/
theorem test_decode_a3I16D :
    decodeWord .a32 0xF382281B#32 = .ok (.a3I16D 0 2 0xAB) := by decide

/-- V8 -/
theorem test_decode_a3I16Q :
    decodeWord .a32 0xF3C2EA5B#32 = .ok (.a3I16Q 1 30 0xAB) := by decide

/-- V9 -/
theorem test_decode_a4I32D :
    decodeWord .a32 0xF3823C1B#32 = .ok (.a4I32D 0 3 0xAB) := by decide

/-- V10 -/
theorem test_decode_a4I32Q :
    decodeWord .a32 0xF3822D5B#32 = .ok (.a4I32Q 1 2 0xAB) := by decide

/-- V11 -/
theorem test_decode_a4I8D :
    decodeWord .a32 0xF3870E1F#32 = .ok (.a4I8D 0 0xFF) := by decide

/-- V12 -/
theorem test_decode_a4I8Q :
    decodeWord .a32 0xF2854E55#32 = .ok (.a4I8Q 4 0x55) := by decide

/-- V15 -/
theorem test_decode_a4F32D :
    decodeWord .a32 0xF2844F10#32 = .ok (.a4F32D 4 0x40) := by decide

/-- V13 -/
theorem test_decode_a4F32Q :
    decodeWord .a32 0xF2870F50#32 = .ok (.a4F32Q 0 0x70) := by decide

/-- V18 -/
theorem test_decode_a5I64D :
    decodeWord .a32 0xF3825E36#32 = .ok (.a5I64D 5 0xA6) := by decide

/-- V19 -/
theorem test_decode_a5I64Q :
    decodeWord .a32 0xF2806E71#32 = .ok (.a5I64Q 6 0x01) := by decide

/-- V27 -/
theorem test_decode_a2F16 :
    decodeWord .a32 0xEEF61900#32 = .ok (.a2F16 14 3 0x60 0) := by decide

/-- V24 -/
theorem test_decode_a2F32 :
    decodeWord .a32 0xEEFFFA08#32 = .ok (.a2F32 14 31 0xF8 0) := by decide

/-- V34 -/
theorem test_decode_a2F64 :
    decodeWord .a32 0x1EB81B00#32 = .ok (.a2F64 1 1 0x80 0) := by decide

/-- V52 -/
theorem test_decode_a2Size00 :
    decodeWord .a32 0xEEB70800#32 = .ok (.a2Size00 14 0 0x70 0) := by decide

/-- V4 -/
theorem test_decode_t1I32D :
    decodeWord .t32 0xFFC2121B#32 = .ok (.t1I32D 1 17 0xAB) := by decide

/-- V5 -/
theorem test_decode_t1I32Q :
    decodeWord .t32 0xFFC2045B#32 = .ok (.t1I32Q 2 16 0xAB) := by decide

/-- V7 -/
theorem test_decode_t3I16D :
    decodeWord .t32 0xFF82281B#32 = .ok (.t3I16D 0 2 0xAB) := by decide

/-- V8 -/
theorem test_decode_t3I16Q :
    decodeWord .t32 0xFFC2EA5B#32 = .ok (.t3I16Q 1 30 0xAB) := by decide

/-- V9 -/
theorem test_decode_t4I32D :
    decodeWord .t32 0xFF823C1B#32 = .ok (.t4I32D 0 3 0xAB) := by decide

/-- V10 -/
theorem test_decode_t4I32Q :
    decodeWord .t32 0xFF822D5B#32 = .ok (.t4I32Q 1 2 0xAB) := by decide

/-- V11 -/
theorem test_decode_t4I8D :
    decodeWord .t32 0xFF870E1F#32 = .ok (.t4I8D 0 0xFF) := by decide

/-- V12 -/
theorem test_decode_t4I8Q :
    decodeWord .t32 0xEF854E55#32 = .ok (.t4I8Q 4 0x55) := by decide

/-- V14 -/
theorem test_decode_t4F32D :
    decodeWord .t32 0xFF804F10#32 = .ok (.t4F32D 4 0x80) := by decide

/-- V13 -/
theorem test_decode_t4F32Q :
    decodeWord .t32 0xEF870F50#32 = .ok (.t4F32Q 0 0x70) := by decide

/-- V20 -/
theorem test_decode_t5I64D :
    decodeWord .t32 0xFF800E30#32 = .ok (.t5I64D 0 0x80) := by decide

/-- V19 -/
theorem test_decode_t5I64Q :
    decodeWord .t32 0xEF806E71#32 = .ok (.t5I64Q 6 0x01) := by decide

/-- V27 -/
theorem test_decode_t2F16 :
    decodeWord .t32 0xEEF61900#32 = .ok (.t2F16 3 0x60 0) := by decide

/-- V24 -/
theorem test_decode_t2F32 :
    decodeWord .t32 0xEEFFFA08#32 = .ok (.t2F32 31 0xF8 0) := by decide

/-- V30 -/
theorem test_decode_t2F64 :
    decodeWord .t32 0xEEFB0B0F#32 = .ok (.t2F64 16 0xBF 0) := by decide

/-- V52 read as T32 -/
theorem test_decode_t2Size00 :
    decodeWord .t32 0xEEB70800#32 = .ok (.t2Size00 0 0x70 0) := by decide

/-- V4, field by field as R76 lays them out: i, 1, D, 000, imm3, Vd, cmode, 0, Q, op, 1, imm4 -/
theorem test_decode_bits_simdA32 :
    decodeWord .a32 (0b1111001#7 ++ 0b1#1 ++ 0b1#1 ++ 0b1#1 ++ 0b000#3 ++ 0b010#3 ++ 0b0001#4 ++ 0b0010#4 ++ 0b0#1 ++ 0b0#1 ++ 0b0#1 ++ 0b1#1
      ++ 0b1011#4) = .ok (.a1I32D 0b01 0b10001 0b10101011) := by decide

/-- V18, field by field as R77 lays them out -/
theorem test_decode_bits_simdT32 :
    decodeWord .t32 (0b111#3 ++ 0b1#1 ++ 0b11111#5 ++ 0b0#1 ++ 0b000#3 ++ 0b010#3 ++ 0b0101#4 ++ 0b1110#4 ++ 0b0#1 ++ 0b0#1 ++ 0b1#1 ++ 0b1#1
      ++ 0b0110#4) = .ok (.t5I64D 0b00101 0b10100110) := by decide

/-- V32, field by field as R78 lays them out: cond, 11101, D, 11, imm4H, Vd, 10, size, sbz, 0, sbz, 0, imm4L -/
theorem test_decode_bits_fpA32 :
    decodeWord .a32 (0b0000#4 ++ 0b11101#5 ++ 0b1#1 ++ 0b11#2 ++ 0b0000#4 ++ 0b0010#4 ++ 0b10#2 ++ 0b10#2 ++ 0b0#1 ++ 0b0#1 ++ 0b0#1 ++ 0b0#1
      ++ 0b1000#4) = .ok (.a2F32 0b0000 0b00101 0b00001000 0) := by decide

/-- V30 with bit 7 set, field by field as R79 lays them out -/
theorem test_decode_bits_fpT32 :
    decodeWord .t32 (0b11101110#8 ++ 0b1#1 ++ 0b1#1 ++ 0b11#2 ++ 0b1011#4 ++ 0b0000#4 ++ 0b10#2 ++ 0b11#2 ++ 0b1#1 ++ 0b0#1 ++ 0b0#1 ++ 0b0#1
      ++ 0b1111#4) = .ok (.t2F64 0b10000 0b10111111 0b10) := by decide

/-- V43, V44, V47, V48, V50, V51, V64, V66 -/
theorem test_decode_rejects :
    decodeWord .a32 0xF2800110#32 = .error .seeVorrImmediate ∧ decodeWord .t32 0xEF800110#32 = .error .seeVorrImmediate ∧
      decodeWord .a32 0xF2800030#32 = .error .seeRelatedEncodings ∧ decodeWord .a32 0xF2800F30#32 = .error .seeRelatedEncodings ∧
      decodeWord .a32 0xF2800090#32 = .error .noPattern ∧ decodeWord .a32 0xF2880010#32 = .error .noPattern ∧
      decodeWord .a32 0xFEB70A00#32 = .error .noPattern ∧ decodeWord .a32 0xEEB70A10#32 = .error .noPattern := by decide

/-- 20_memory.md R62 and 30_encoding.md R100, on V3 and V1 -/
theorem test_decode_bytes :
    decodeBytes .a32 .little [0x1B, 0x00, 0x82, 0xF3] = .ok (.a1I32D 0 0 0xAB, []) ∧
      decodeBytes .t32 .little [0x82, 0xFF, 0x1B, 0x00] = .ok (.t1I32D 0 0 0xAB, []) ∧
      decodeBytes .t32 .little [0x80, 0xEF, 0x10, 0x00] = .ok (.t1I32D 0 0 0, []) ∧
      decodeBytes .t32 .little [0x00, 0x20] = .error .narrowT32 ∧ decodeBytes .t32 .little [0x82, 0xFF] = .error .truncated := by decide

/-! ### One step of each instruction (results of 95_test_vectors.md sections 2.1 and 2.3) -/

/-- V3 -/
theorem test_step_a1I32D :
    dAfter 0 (step (State.reset.withFetchWord 32 0xF382001B)) = some 0x000000AB000000AB#64 := by decide

/-- V5 -/
theorem test_step_a1I32Q :
    dAfter 17 (step (State.reset.withFetchWord 32 0xF3C2045B)) = some 0x00AB000000AB0000#64 := by decide

/-- V7 -/
theorem test_step_a3I16D :
    dAfter 2 (step (State.reset.withFetchWord 32 0xF382281B)) = some 0x00AB00AB00AB00AB#64 := by decide

/-- V8 -/
theorem test_step_a3I16Q :
    dAfter 31 (step (State.reset.withFetchWord 32 0xF3C2EA5B)) = some 0xAB00AB00AB00AB00#64 := by decide

/-- V9 -/
theorem test_step_a4I32D :
    dAfter 3 (step (State.reset.withFetchWord 32 0xF3823C1B)) = some 0x0000ABFF0000ABFF#64 := by decide

/-- V10 -/
theorem test_step_a4I32Q :
    dAfter 3 (step (State.reset.withFetchWord 32 0xF3822D5B)) = some 0x00ABFFFF00ABFFFF#64 := by decide

/-- V11 -/
theorem test_step_a4I8D :
    dAfter 0 (step (State.reset.withFetchWord 32 0xF3870E1F)) = some 0xFFFFFFFFFFFFFFFF#64 := by decide

/-- V12 -/
theorem test_step_a4I8Q :
    dAfter 5 (step (State.reset.withFetchWord 32 0xF2854E55)) = some 0x5555555555555555#64 := by decide

/-- V14 -/
theorem test_step_a4F32D :
    dAfter 4 (step (State.reset.withFetchWord 32 0xF3804F10)) = some 0xC0000000C0000000#64 := by decide

/-- V13 -/
theorem test_step_a4F32Q :
    dAfter 1 (step (State.reset.withFetchWord 32 0xF2870F50)) = some 0x3F8000003F800000#64 := by decide

/-- V18 -/
theorem test_step_a5I64D :
    dAfter 5 (step (State.reset.withFetchWord 32 0xF3825E36)) = some 0xFF00FF0000FFFF00#64 := by decide

/-- V19 -/
theorem test_step_a5I64Q :
    dAfter 7 (step (State.reset.withFetchWord 32 0xF2806E71)) = some 0x00000000000000FF#64 := by decide

/-- V6 -/
theorem test_step_t1I32D :
    dAfter 31 (step (State.reset.withFetchWord 32 0xFFC2F61B)) = some 0xAB000000AB000000#64 := by decide

/-- V5 -/
theorem test_step_t1I32Q :
    dAfter 17 (step (State.reset.withFetchWord 32 0xFFC2045B)) = some 0x00AB000000AB0000#64 := by decide

/-- V7 -/
theorem test_step_t3I16D :
    dAfter 2 (step (State.reset.withFetchWord 32 0xFF82281B)) = some 0x00AB00AB00AB00AB#64 := by decide

/-- V8 -/
theorem test_step_t3I16Q :
    dAfter 31 (step (State.reset.withFetchWord 32 0xFFC2EA5B)) = some 0xAB00AB00AB00AB00#64 := by decide

/-- V9 -/
theorem test_step_t4I32D :
    dAfter 3 (step (State.reset.withFetchWord 32 0xFF823C1B)) = some 0x0000ABFF0000ABFF#64 := by decide

/-- V10 -/
theorem test_step_t4I32Q :
    dAfter 3 (step (State.reset.withFetchWord 32 0xFF822D5B)) = some 0x00ABFFFF00ABFFFF#64 := by decide

/-- V11 -/
theorem test_step_t4I8D :
    dAfter 0 (step (State.reset.withFetchWord 32 0xFF870E1F)) = some 0xFFFFFFFFFFFFFFFF#64 := by decide

/-- V12 -/
theorem test_step_t4I8Q :
    dAfter 5 (step (State.reset.withFetchWord 32 0xEF854E55)) = some 0x5555555555555555#64 := by decide

/-- V16 -/
theorem test_step_t4F32D :
    dAfter 4 (step (State.reset.withFetchWord 32 0xEF834F1F)) = some 0x41F8000041F80000#64 := by decide

/-- V13 -/
theorem test_step_t4F32Q :
    dAfter 1 (step (State.reset.withFetchWord 32 0xEF870F50)) = some 0x3F8000003F800000#64 := by decide

/-- V20 -/
theorem test_step_t5I64D :
    dAfter 0 (step (State.reset.withFetchWord 32 0xFF800E30)) = some 0xFF00000000000000#64 := by decide

/-- V19 -/
theorem test_step_t5I64Q :
    dAfter 7 (step (State.reset.withFetchWord 32 0xEF806E71)) = some 0x00000000000000FF#64 := by decide

/-- V31 -/
theorem test_step_t2F16 :
    dAfter 0 (step (State.reset.withFetchWord 32 0xEEBC0908)) = some 0x000000000000B200#64 := by decide

/-- V26 -/
theorem test_step_t2F32 :
    dAfter 0 (step (State.reset.withFetchWord 32 0xEEF00A00)) = some 0x4000000000000000#64 := by decide

/-- V22 -/
theorem test_step_t2F64 :
    dAfter 0 (step (State.reset.withFetchWord 32 0xEEB70B00)) = some 0x3FF0000000000000#64 := by decide

/-- V32 with the condition NE of Z = 0 -/
theorem test_step_a2F32 :
    dAfter 2 (step (State.reset.withFetchWord 32 0x1EF02A08)) = some 0x4040000000000000#64 := by decide

/-- V35 -/
theorem test_step_a2F64 :
    dAfter 1 (step (State.reset.withFetchWord 32 0x1EB81B00)) = some 0xC000000000000000#64 := by decide

/-- V27, and the other half of D[1] is kept (R31) -/
theorem test_exec_a2F16 :
    dAfter 1 (exec (.a2F16 14 3 0x60 0) (withD 1 0x1111111122222222 State.reset)) = some 0x0000380022222222#64 := by decide

/-- 95_test_vectors.md section 2.7 -/
theorem test_aliasing :
    dAfter 0 (exec (.a2F32 14 0 0x70 0) (withD 0 0x1111111122222222 State.reset)) = some 0x111111113F800000#64 ∧
      dAfter 0 (exec (.a2F32 14 1 0x00 0) (withD 0 0x111111113F800000 State.reset)) = some 0x400000003F800000#64 ∧
      dAfter 0 (exec (.a2F16 14 0 0x70 0) (withD 0 0x400000003F800000 State.reset)) = some 0x4000000000003C00#64 := by decide

/-- V1 and V61, and an IT block with two more instructions (10_state.md R39) -/
theorem test_advance :
    (nextOf (step (State.reset.withFetchWord 32 0xF2800010))).map (fun s => (s.pc, s.itstate)) = some (4#32, 0#8) ∧
      (nextOf (exec (.t2F32 0 0x70 0) inBlock)).map (fun s => (s.pc, s.itstate)) = some (4#32, 0#8) ∧
      (nextOf (exec (.t1I32D 0 0 0) { inBlock with itstate := 0b00000110#8 })).map (fun s => s.itstate) = some 0b00001100#8 := by decide

/-! ### Verdicts (95_test_vectors.md section 2.5) -/

/-- V40, V41, V42 -/
theorem test_v40_odd_quadword :
    faultOf (step (State.reset.withFetchWord 32 0xF2801050)) = some .undefined ∧ faultOf (step (State.reset.withFetchWord 32 0xEF801050)) = some .undefined ∧
      faultOf (step (State.reset.withFetchWord 32 0xF2C01050)) = some .undefined := by decide

/-- V43, V47, V64 -/
theorem test_v43_not_this_instruction :
    refusalOf (step (State.reset.withFetchWord 32 0xF2800110)) = some (.notThisInstruction .seeVorrImmediate) ∧
      refusalOf (step (State.reset.withFetchWord 32 0xF2800030)) = some (.notThisInstruction .seeRelatedEncodings) ∧
      refusalOf (step (State.reset.withFetchWord 32 0xFEB70A00)) = some (.notThisInstruction .noPattern) := by decide

/-- V46, V49 -/
theorem test_v46_and_v49 :
    dAfter 0 (step (State.reset.withFetchWord 32 0xF2800D10)) = some 0x0000FFFF0000FFFF#64 ∧ dAfter 0 (step (State.reset.withFetchWord 32 0xF2800E30)) = some 0#64 := by decide

/-- V52, and the NOP of a failed condition (60_exceptions.md R156) -/
theorem test_v52_size00 :
    faultOf (exec (.a2Size00 14 0 0x70 0) State.reset) = some .undefined ∧ faultOf (exec (.t2Size00 0 0x70 0) inT32) = some .undefined ∧
      pcAfter (exec (.a2Size00 0 0 0x70 0) State.reset) = some 4#32 ∧ pcAfter (exec (.t2Size00 0 0x70 0) inBlock) = some 4#32 := by decide

/-- V53, V54, V55 -/
theorem test_v53_to_v55 :
    faultOf (exec (.a2F16 14 0 0x70 0) noFp16) = some .undefined ∧ faultOf (exec (.a2F32 14 0 0x70 0) shortLen) = some .undefined ∧
      faultOf (exec (.a2F64 14 0 0x70 0) shortStride) = some .undefined := by decide

/-- V56 -/
theorem test_v56_simd_reads_no_fpscr :
    dAfter 0 (exec (.a1I32D 0 0 0) shortLen) = some 0#64 := by decide

/-- V58, V59 -/
theorem test_v58_v59 :
    pcAfter (exec (.a2F16 0 0 0x70 0) noFp16) = some 4#32 ∧
      faultOf (exec (.a2F16 0 0 0x70 0) { noFp16 with flags := zSet }) = some .undefined := by decide

/-- V61 -/
theorem test_v61_it_block_nop :
    dAfter 0 (exec (.t2F32 0 0x70 0) inBlock) = some 0#64 := by decide

/-- V62, V63 -/
theorem test_v62_v63 :
    faultOf (exec (.a2F32 14 0 0x70 0b10) State.reset) = some .unpredictable ∧ faultOf (exec (.a2F32 14 0 0x70 0b01) State.reset) = some .unpredictable ∧
      dAfter 0 (exec (.a2F32 14 0 0x70 0b11) sbzIgnored) = some 0x000000003F800000#64 := by decide

/-- V67, V68, V69, V70 -/
theorem test_v67_to_v70 :
    faultOf (exec (.a4F32Q 0 0x70) (access .undefined .enabled)) = some .undefined ∧
      faultOf (exec (.a2F64 14 0 0x70 0) (access .enabled .hypTrap)) = some .hypTrap ∧
      dAfter 1 (exec (.a4F32Q 0 0x70) (access .enabled .undefined)) = some 0x3F8000003F800000#64 ∧
      pcAfter (exec (.a2F64 1 1 0x80 0) { access .enabled .hypTrap with flags := zSet }) = some 4#32 := by decide

/-- 20_memory.md R63, D27, and log 9 -/
theorem test_misaligned :
    refusalOf (step { State.reset with pc := 2#32 }) = some .misalignedPc ∧ refusalOf (step { inT32 with pc := 1#32 }) = some .misalignedPc ∧
      faultOf (step State.reset) = some (.fetchNoValue 0) := by decide

/-- 95_test_vectors.md section 2.2 -/
theorem test_expand_simd_81 :
    expandSimd 0 0b0000 0x81 = 0x0000008100000081#64 ∧ expandSimd 0 0b0110 0x81 = 0x8100000081000000#64 ∧
      expandSimd 0 0b1010 0x81 = 0x8100810081008100#64 ∧ expandSimd 0 0b1100 0x81 = 0x000081FF000081FF#64 ∧
      expandSimd 0 0b1101 0x81 = 0x0081FFFF0081FFFF#64 ∧ expandSimd 0 0b1111 0x81 = 0xC0080000C0080000#64 ∧
      expandSimd 1 0b1110 0x81 = 0xFF000000000000FF#64 := by decide

/-- 95_test_vectors.md section 2.4 -/
theorem test_expand_vfp :
    expandVfp16 0x4F = 0x33C0#16 ∧ expandVfp32 0x4F = 0x3E780000#32 ∧ expandVfp64 0x4F = 0x3FCF000000000000#64 ∧
      expandVfp16 0xFF = 0xBFC0#16 ∧ expandVfp32 0xFF = 0xBFF80000#32 ∧ expandVfp64 0xFF = 0xBFFF000000000000#64 := by decide

/-- hand evaluation of 60_exceptions.md R153 -/
theorem test_outline :
    fpSimdAccess (outlined true true).config openCtl true = .enabled ∧
      fpSimdAccess (outlined true true).config { openCtl with nsacr := { nsasedis := 1#1, cp10 := 1#1 } } true = .undefined ∧
      fpSimdAccess (outlined true true).config { openCtl with hcptr := { tase := 1#1, tcp10 := 0#1 } } true = .hypTrap ∧
      fpSimdAccess (outlined true true).config { openCtl with hcptr := { tase := 1#1, tcp10 := 0#1 } } false = .enabled ∧
      fpSimdAccess (outlined true true).config { openCtl with hcptr := { tase := 0#1, tcp10 := 1#1 }, mode := .hyp } false = .undefined := by decide

/-- 00_scope.md R11, R12: the constant is open and the instruction completes -/
theorem test_other_expansions_complete :
    pcAfter (exec (.a1I32Q 0 30 0xFF) otherExpansions) = some 4#32 ∧ pcAfter (exec (.a2F64 14 31 0xFF 0) otherExpansions) = some 4#32 := by decide

/-- V5, V32, V31, V18, and the odd register pair of V40 -/
theorem test_assembler_text :
    (disassemble Config.testVectors 0#8 (.a1I32Q 2 16 0xAB)).map AsmLine.text = some "VMOV.I32 q8, #0x00AB0000" ∧
      (disassemble Config.testVectors 0#8 (.a2F32 0 5 0x08 0)).map AsmLine.text = some "VMOVEQ.F32 s5, #3.0" ∧
      (disassemble Config.testVectors 0#8 (.a2F16 14 0 0xC8 0)).map AsmLine.text = some "VMOV.F16 s0, #-0.1875" ∧
      (disassemble Config.testVectors 0#8 (.a5I64D 5 0xA6)).map AsmLine.text = some "VMOV.I64 d5, #0xFF00FF0000FFFF00" ∧
      (disassemble Config.testVectors 0#8 (.a1I32Q 0 1 0)).map AsmLine.text = none := by decide

/-! ### Witnesses: for each statement with hypotheses, a state and operands that meet them, for every clause -/

theorem test_witness_DecodeOfEncodeIsTheInstruction :
    (Instr.a2F64 0b1110#4 31 0xFF 0b11).wellFormed = true ∧ (Instr.t5I64Q 31 0xFF).wellFormed = true := by decide

theorem test_witness_DecodedWordIsTheEncodersWord :
    decodeWord .a32 0xEEFFFBAF#32 = .ok (.a2F64 14 31 0xFF 0b11) ∧ decodeWord .t32 0xEF800010#32 = .ok (.t1I32D 0 0 0) := by decide

theorem test_witness_VorrClauseRedirectsSixCmodes :
    (0b0110#4).extractLsb' 3 1 = 0b0#1 ∧ (0b0110#4).extractLsb' 0 1 = 0b0#1 ∧ (0b1010#4).extractLsb' 2 2 = 0b10#2 ∧
      (0b1010#4).extractLsb' 0 1 = 0b0#1 ∧ (0b1101#4).extractLsb' 2 2 = 0b11#2 := by decide

theorem test_witness_UnconditionalSpaceIsNeverA2 :
    (0xFEB70A00#32).extractLsb' 28 4 = 0b1111#4 ∧ (0xFFFFFFFF#32).extractLsb' 28 4 = 0b1111#4 := by decide

theorem test_witness_StepRunsTheDecodedInstruction :
    pcAligned (placed 0xF2800010).iset (placed 0xF2800010).pc = true ∧ fetch (placed 0xF2800010) = .ok [0x10, 0x00, 0x80, 0xF2] ∧
      decodeBytes .a32 .little [0x10, 0x00, 0x80, 0xF2] = .ok (.a1I32D 0 0 0, []) ∧ (Instr.a1I32D 0 0 0).wellFormed = true := by decide

theorem test_witness_InstructionInMemoryIsExecuted :
    (Instr.a1I32D 0 0 0).wellFormed = true ∧ (Instr.a1I32D 0 0 0).iset = atTop.iset ∧ pcAligned atTop.iset atTop.pc = true ∧
      encodeBytes atTop.config.fetchByteOrder (.a1I32D 0 0 0) = [0x10, 0x00, 0x80, 0xF2] ∧ atTop.mem.read atTop.pc.toNat = some 0x10 ∧
      atTop.mem.read (atTop.pc + 1#32).toNat = some 0x00 ∧ atTop.mem.read (atTop.pc + 2#32).toNat = some 0x80 ∧
      atTop.mem.read (atTop.pc + 3#32).toNat = some 0xF2 ∧ atTop.config.fetchByteOrder = .little ∧ atTop.iset = .a32 ∧
      decodeA32 (0xF2#8 ++ 0x80#8 ++ 0x00#8 ++ 0x10#8) = .ok (.a1I32D 0 0 0) := by decide

theorem test_witness_InstructionInMemoryIsExecuted_t32 :
    (placed 0xEF800010).iset = .t32 ∧ (placed 0xEF800010).pc = 0#32 ∧ (placed 0xEF800010).config.fetchByteOrder = .little ∧
      (placed 0xEF800010).mem = [(0, 0x80), (1, 0xEF), (2, 0x10), (3, 0x00)] ∧
      decodeT32 (0xEF#8 ++ 0x80#8) (0x00#8 ++ 0x10#8) = .ok (.t1I32D 0 0 0) := by decide

theorem test_witness_InstructionInMemoryIsExecuted_refused :
    (placed 0xF2800110).iset = .a32 ∧ (placed 0xF2800110).mem = [(0, 0x10), (1, 0x01), (2, 0x80), (3, 0xF2)] ∧
      decodeA32 (0xF2#8 ++ 0x80#8 ++ 0x01#8 ++ 0x10#8) = .error .seeVorrImmediate := by decide

theorem test_witness_PlacedTableWordIsExecuted :
    decodeTableWord 32 0xF2800010 = some (.a1I32D 0 0 0) ∧ decodeTableWord 32 0xFFC2045B = some (.t1I32Q 2 16 0xAB) := by decide

theorem test_witness_OtherWordsHaveNoStep :
    fetch (placed 0xF2800110) = .ok [0x10, 0x01, 0x80, 0xF2] ∧
      decodeBytes .a32 .little [0x10, 0x01, 0x80, 0xF2] = .error .seeVorrImmediate ∧
      ({ State.reset with pc := 3#32 } : State).pc.toNat % 4 ≠ 0 ∧ ({ inT32 with pc := 1#32 } : State).pc.toNat % 2 ≠ 0 ∧
      pcAligned State.reset.iset State.reset.pc = true ∧ State.reset.mem.read State.reset.pc.toNat = none := by decide

theorem test_witness_A32DoublewordFormsWriteTheConstant :
    State.reset.enabled true ∧ State.reset.config.expandSimd = .adopted ∧ otherExpansions.enabled true ∧ (access .enabled .undefined).enabled true := by decide

theorem test_witness_A32QuadwordFormsWriteTheConstant :
    State.reset.config.expandSimd = .adopted ∧ State.reset.enabled true ∧ (30#5).extractLsb' 0 1 = 0b0#1 ∧ (0#5).extractLsb' 0 1 = 0b0#1 := by decide

theorem test_witness_T32DoublewordFormsWriteTheConstant :
    inT32.config.expandSimd = .adopted ∧ inT32.enabled true ∧ inT32.condT32Passes ∧ ({ inBlock with flags := zSet } : State).enabled true ∧
      ({ inBlock with flags := zSet } : State).condT32Passes := by decide

theorem test_witness_T32QuadwordFormsWriteTheConstant :
    inT32.config.expandSimd = .adopted ∧ inT32.enabled true ∧ inT32.condT32Passes ∧ (30#5).extractLsb' 0 1 = 0b0#1 := by decide

theorem test_witness_A2FormsWriteTheConstant :
    State.reset.config.expandVfp = .adopted ∧ State.reset.enabled false ∧ State.reset.fpscrZero ∧ State.reset.sbzAccepted 0b00#2 ∧ sbzIgnored.sbzAccepted 0b11#2 ∧
      sbzIgnored.enabled false ∧ sbzIgnored.fpscrZero ∧ State.reset.config.haveFP16 = true ∧ conditionPassed 0b0001#4 State.reset.flags = true := by decide

theorem test_witness_T2FormsWriteTheConstant :
    inT32.config.expandVfp = .adopted ∧ inT32.enabled false ∧ inT32.fpscrZero ∧ inT32.sbzAccepted 0b00#2 ∧ inT32.config.haveFP16 = true ∧ inITBlock inT32.itstate = false ∧
      inT32.condT32Passes ∧ ({ inBlock with flags := zSet } : State).condT32Passes := by decide

theorem test_witness_FailedConditionIsNop :
    inBlock.config.condFailUndef = false ∧ conditionPassed (condT32 inBlock.itstate) inBlock.flags = false ∧ inBlock.sbzAccepted 0b00#2 ∧
      conditionPassed 0b0000#4 inBlock.flags = false ∧ shortInBlock.config.condFailUndef = false ∧ shortInBlock.sbzAccepted 0b00#2 ∧ (¬ shortInBlock.fpscrZero ∨ shortInBlock.config.haveFP16 = false) ∧
      conditionPassed (condT32 shortInBlock.itstate) shortInBlock.flags = false ∧ conditionPassed 0b0000#4 shortInBlock.flags = false := by decide

theorem test_witness_CondFailUndefAdmitsOneMoreOutcome :
    (lax .enabled).config.condFailUndef = true ∧ (lax .enabled).sbzAccepted 0b00#2 ∧
      conditionPassed (currentCond (lax .enabled) (.t1I32Q 0 30 0)) (lax .enabled).flags = false ∧
      conditionPassed (currentCond (lax .enabled) (.a2F64 0 0 0 0)) (lax .enabled).flags = false ∧
      namesOddQuadword (.t1I32Q 0 31 0) = true ∧ namesOddQuadword (.t1I32Q 0 30 0) = false ∧
      conditionalHalf (lax .enabled) (.t1I32Q 0 30 0) = false ∧ fpSimdAccess (lax .enabled).config (lax .enabled).ctl true ≠ .undefined ∧
      advsimdOf (.t2F32 0 0 0) = false ∧ ¬ laxShort.fpscrZero ∧ conditionPassed (currentCond laxShort (.t2F16 0 0 0)) laxShort.flags = false ∧
      sizeField (.a2Size00 0 0 0 0) = some 0b00#2 ∧ laxNoFp16.config.haveFP16 = false ∧
      conditionPassed (currentCond laxNoFp16 (.a2F16 0 0 0 0)) laxNoFp16.flags = false ∧ (lax .enabled).fpscrZero ∧
      fpSimdAccess (lax .undefined).config (lax .undefined).ctl false = .undefined ∧ (lax .undefined).config.condFailUndef = true ∧
      fpSimdAccess (lax .hypTrap).config (lax .hypTrap).ctl false ≠ .undefined := by decide

theorem test_witness_OddQuadwordIsUndefined :
    (31#5).extractLsb' 0 1 = 0b1#1 ∧ (1#5).extractLsb' 0 1 = 0b1#1 ∧ inT32.condT32Passes := by decide

theorem test_witness_ShortVectorModeMakesScalarFormsUndefined :
    ¬ shortLen.fpscrZero ∧ ¬ shortStride.fpscrZero ∧ shortLen.sbzAccepted 0b00#2 ∧ conditionPassed 0b1110#4 shortLen.flags = true ∧
      ({ shortLen with iset := .t32 } : State).condT32Passes := by decide

theorem test_witness_SizeZeroAndMissingFp16AreUndefined :
    noFp16.sbzAccepted 0b00#2 ∧ conditionPassed 0b0001#4 noFp16.flags = true ∧ noFp16.config.haveFP16 = false ∧ noFp16.condT32Passes := by decide

theorem test_witness_ConditionalHalfPrecisionA2HasThreeOutcomes :
    (0b0000#4 : BitVec 4) ≠ 0b1110#4 ∧ State.reset.fpscrZero ∧ State.reset.config.haveFP16 = true ∧ State.reset.sbzAccepted 0b00#2 := by decide

theorem test_witness_HalfPrecisionInItBlockHasThreeOutcomes :
    inITBlock inBlock.itstate = true ∧ inBlock.fpscrZero ∧ inBlock.config.haveFP16 = true ∧ inBlock.sbzAccepted 0b00#2 := by decide

theorem test_witness_EnableCheckStopsTheInstruction :
    fpSimdAccess (access .undefined .hypTrap).config (access .undefined .hypTrap).ctl true = .undefined ∧
      fpSimdAccess (access .undefined .hypTrap).config (access .undefined .hypTrap).ctl false = .hypTrap ∧
      fpSimdAccess (access .hypTrap .undefined).config (access .hypTrap .undefined).ctl true = .hypTrap ∧
      fpSimdAccess (access .hypTrap .undefined).config (access .hypTrap .undefined).ctl false = .undefined ∧
      (access .undefined .hypTrap).condT32Passes ∧ (access .undefined .hypTrap).fpscrZero ∧ (access .undefined .hypTrap).sbzAccepted 0b00#2 ∧
      conditionPassed 0b1110#4 (access .undefined .hypTrap).flags = true ∧ (access .undefined .hypTrap).config.haveFP16 = true ∧
      inITBlock (access .undefined .hypTrap).itstate = false ∧ (access .hypTrap .undefined).condT32Passes ∧
      (access .hypTrap .undefined).fpscrZero ∧ (access .hypTrap .undefined).sbzAccepted 0b00#2 ∧ (0#5).extractLsb' 0 1 = 0b0#1 := by decide

theorem test_witness_ShouldBeZeroBitsFaultOrAreIgnored :
    State.reset.config.sbzPolicy = .fault ∧ (0b01#2 : BitVec 2) ≠ 0#2 ∧ sbzIgnored.config.sbzPolicy = .ignore := by decide

theorem test_witness_UndefinedEncodingsAreTheListedOnes :
    conditionPassed (currentCond State.reset (.a1I32Q 0 31 0)) State.reset.flags = true ∧ State.reset.sbzAccepted 0b00#2 ∧
      namesOddQuadword (.a1I32Q 0 31 0) = true ∧ advsimdOf (.a2F64 14 0 0 0) = false ∧ shortLen.fpscr.len ≠ 0b000#3 ∧ shortLen.sbzAccepted 0b00#2 ∧
      sizeField (.a2Size00 14 0 0 0) = some 0b00#2 ∧ sizeField (.a2F16 14 0 0 0) = some 0b01#2 ∧ noFp16.config.haveFP16 = false ∧
      conditionalHalf State.reset (.a2F16 14 0 0 0) = false ∧
      fpSimdAccess (access .undefined .undefined).config (access .undefined .undefined).ctl true = .undefined ∧
      faultOf (exec (.a2Size00 14 0 0x70 0) State.reset) = some .undefined := by decide

theorem test_witness_EveryStopHasItsCause :
    exec (.a1I32Q 0 31 0) State.reset = .fault .undefined ∧ exec (.a2F64 14 0 0x70 0) (access .enabled .hypTrap) = .fault .hypTrap ∧
      exec (.t2F64 0 0x70 0b01) inT32 = .fault .unpredictable := ⟨rfl, rfl, rfl⟩

theorem test_witness_CompletedInstructionFrame :
    (∃ t, exec (.a1I32Q 3 30 0xFF) State.reset = .next t) ∧ (∃ t, exec (.t4I8D 31 0xFF) inBlock = .next t) ∧
      (∃ t, exec (.t2F32 31 0xFF 0) inT32 = .next t) := ⟨⟨_, rfl⟩, ⟨_, rfl⟩, ⟨_, rfl⟩⟩

theorem test_witness_FlagsAndStatusAreNeverWritten :
    (∃ t, exec (.a5I64D 31 0xFF) State.reset = .next t) ∧ exec (.a1I32Q 0 31 0) State.reset = .fault .undefined := ⟨⟨_, rfl⟩, rfl⟩

theorem test_witness_ExecutionIgnoresAndKeepsMemory :
    (∃ t, exec (.t2F64 31 0xFF 0) inT32 = .next t) ∧ exec (.a2F64 14 0 0x70 0) (access .enabled .hypTrap) = .fault .hypTrap := ⟨⟨_, rfl⟩, rfl⟩

theorem test_witness_ExecutionReadsNoSimdRegister :
    (∃ t, exec (.a2F16 14 31 0xFF 0) State.reset = .next t) ∧ exec (.a1I32Q 0 31 0) State.reset = .fault .undefined := ⟨⟨_, rfl⟩, rfl⟩

theorem test_witness_EveryCompletedInstructionAdvances :
    inT32.iset = .t32 ∧ inBlock.itstate.extractLsb' 0 3 = 0b000#3 ∧ (0b00000111#8).extractLsb' 0 3 ≠ 0b000#3 ∧ State.reset.iset = .a32 ∧
      pcAfter (exec (.a1I32D 0 0 0) { State.reset with pc := 0xFFFFFFFC#32 }) = some 0#32 := by decide

theorem test_witness_RepeatedInstructionChangesOnlyPc :
    State.reset.config.condFailUndef = false ∧ inT32.itstate = 0#8 ∧ State.reset.iset = .a32 ∧ (Instr.a2F16 14 31 0xFF 0).iset = .a32 ∧
      (nextOf (exec (.a2F16 14 31 0xFF 0) State.reset)).isSome = true ∧ (nextOf (exec (.t2F16 31 0xFF 0) inT32)).isSome = true := by decide

theorem test_witness_T32FormsEqualA32FormsButForTheCondition :
    inT32.condT32Passes ∧ inITBlock inT32.itstate = false ∧ ({ inBlock with flags := zSet } : State).condT32Passes := by decide

theorem test_witness_SingleRegistersAreHalvesOfDoubleRegisters :
    (31 < 32) ∧ 31 % 2 = 1 ∧ 30 % 2 = 0 ∧ (16 : Nat) ≠ 31 / 2 := by decide

theorem test_witness_DoublewordDestinationsAreWritten :
    32 < (fpConstants Config.testVectors 0b11#2 31 0xFF).esize ∧ (fpConstants Config.testVectors 0b11#2 31 0xFF).d + (fpConstants Config.testVectors 0b11#2 31 0xFF).regs ≤ 32 ∧
      (fpConstants Config.testVectors 0b11#2 31 0xFF).regs = 1 ∧ fpVerdict 0b11#2 31 0xFF false State.reset = .ok (fpConstants Config.testVectors 0b11#2 31 0xFF) ∧
      simdVerdict Config.testVectors 0b0#1 0b1110#4 0b1#1 30 0xFF = .ok { advsimd := true, esize := 64, imm := 0xFFFFFFFFFFFFFFFF#64, d := 30, regs := 2 } := by decide

theorem test_witness_ItBlockEndsWithinFourInstructions :
    inITBlock 0b00001000#8 = true ∧ inITBlock 0b00010000#8 = false ∧ inITBlock (itAdvance 0b00000001#8) = true ∧
      (0b00001000#8).extractLsb' 0 3 = 0b000#3 := by decide

theorem test_witness_FloatingConstantsDenoteTheSameNumber :
    Config.testVectors.expandVfp = .adopted := by decide

theorem test_witness_OneConstantHasSeveralEncodings :
    State.reset.config.expandSimd = .adopted := by decide

theorem test_witness_OutlineOfTheEnableCheck :
    openCtl.mode ≠ .hyp ∧ openCtl.cpacr.cp10 ≠ 0b10#2 ∧ openCtl.fpexc.en = 1#1 ∧ openCtl.security = .nonsecure ∧
      accessOutline true true openCtl true = .enabled ∧
      accessOutline true true { openCtl with cpacr := { asedis := 1#1, cp10 := 0b11#2, cp11 := 0b11#2 } } true = .undefined ∧
      accessOutline false true { openCtl with cpacr := { asedis := 0#1, cp10 := 0b01#2, cp11 := 0b01#2 }, mode := .user } false = .undefined ∧
      accessOutline false false { openCtl with fpexc := { en := 0#1 } } true = .undefined ∧
      accessOutline false true { openCtl with hcptr := { tase := 0#1, tcp10 := 1#1 } } true = .hypTrap ∧
      accessOutline false true { openCtl with hcptr := { tase := 1#1, tcp10 := 0#1 }, mode := .hyp } true = .undefined := by decide

theorem test_witness_HypTrapNeedsNonsecureStateOutsideHypMode :
    (outlined false true).config.access = .outline false true ∧ faultOf (exec (.a1I32D 0 0 0) (outlined false true)) = some .hypTrap := by decide

theorem test_witness_AssembledNameIsTheEncodedRegister :
    (disassemble Config.testVectors 0#8 (.a1I32Q 2 30 0xAB)).map AsmLine.dest = some (.q 15) ∧ (disassemble Config.testVectors 0#8 (.a2F32 14 31 0 0)).map AsmLine.dest = some (.s 31) ∧
      (disassemble Config.testVectors 0#8 (.t5I64D 16 0)).map AsmLine.dest = some (.d 16) := by decide

theorem test_witness_LineElementFillsTheDestination :
    (disassemble State.reset.config State.reset.itstate (.a3I16Q 1 30 0xAB)).map (fun l => (l.imm, l.cond)) = some (.int 0xAB00#64, 0b1110#4) ∧
      conditionPassed 0b1110#4 State.reset.flags = true ∧ (nextOf (exec (.a3I16Q 1 30 0xAB) State.reset)).isSome = true ∧
      (disassemble inBlock.config inBlock.itstate (.t5I64D 31 0x81)).map (fun l => (l.imm, l.cond)) = some (.int 0xFF000000000000FF#64, 0b0000#4) ∧
      conditionPassed 0b0000#4 zSet = true ∧ (nextOf (exec (.t5I64D 31 0x81) { inBlock with flags := zSet })).isSome = true := by decide

theorem test_witness_AssemblerRefusesWhatIsNotALine :
    assembles Config.testVectors 0#8 { cond := 0b1110#4, qualifier := .wide, dt := .i32, dest := .d 0, imm := .int 0 } (.a1I32D 0 0 0) = true ∧
      assembles Config.testVectors 0#8 { cond := 0b1110#4, qualifier := .omitted, dt := .i32, dest := .d 0, imm := .int 0 } (.a1I32D 0 0 0) = true ∧
      assembles Config.testVectors 0#8 { cond := 0b1110#4, qualifier := .narrow, dt := .i32, dest := .d 0, imm := .int 0 } (.a1I32D 0 0 0) = false ∧
      inITBlock inBlock.itstate = true ∧ advsimdOf (.a1I32D 0 0 0) = true ∧ (Instr.a1I32D 0 0 0).iset = .a32 := by decide

theorem test_witness_EveryStepChangesOnlyRegistersPcAndItstate :
    (nextOf (step (placed 0xF3C2EA5B))).isSome = true ∧ (nextOf (step (placed 0xEEF61900))).isSome = true ∧
      writtenHalves (.a3I16Q 1 30 0xAB) = [60, 61, 62, 63] ∧ writtenHalves (.t2F16 3 0x60 0) = [3] := by decide

theorem test_witness_EveryStepKeepsTheStateLegal :
    (placed 0xF2800010).legal ∧ (nextOf (step (placed 0xF2800010))).isSome = true ∧ (placed 0xEF800010).legal ∧
      (nextOf (step (placed 0xEF800010))).isSome = true ∧ atTop.legal ∧ pcAfter (step atTop) = some 0#32 := by decide

end Sys2Proof.Tests
end

section
/-! Where the machine has no step: what `step` answers on a misaligned `pc`, a failed fetch and a word that does not
decode, each once (00_scope.md R25; 20_memory.md R63). -/

namespace Sys2Proof.Machine

/-! ### Alignment as arithmetic on the address -/

theorem pcAligned_a32_iff (pc : Word) : pcAligned .a32 pc = true ↔ pc.toNat % 4 = 0 := by
  simp [pcAligned, BitVec.toNat_eq]

theorem pcAligned_t32_iff (pc : Word) : pcAligned .t32 pc = true ↔ pc.toNat % 2 = 0 := by
  simp [pcAligned, BitVec.toNat_eq]

/-! ### Fetching where the first byte holds no value -/

theorem fetchBytes_succ_of_read_none {m : Memory} {pc : Word} (n : Nat) (h : m.read pc.toNat = none) :
    fetchBytes m (n + 1) pc = .error (.fetchNoValue pc.toNat) := by
  simp only [fetchBytes, h]

/-- In either instruction set the first byte read is the one at `pc`. -/
theorem fetch_of_read_none {s : State} (h : s.mem.read s.pc.toNat = none) :
    fetch s = .error (.fetchNoValue s.pc.toNat) := by
  cases hi : s.iset with
  | a32 => simp only [fetch, hi, fetchBytes_succ_of_read_none 3 h]
  | t32 => simp only [fetch, hi, fetchBytes_succ_of_read_none 1 h]

/-! ### The three ways in which `step` stops before `exec` -/

theorem step_of_not_pcAligned {s : State} (h : ¬ pcAligned s.iset s.pc = true) : step s = .refused .misalignedPc :=
  if_neg h

theorem step_of_fetch_error {s : State} {f : Fault} (ha : pcAligned s.iset s.pc = true) (hf : fetch s = .error f) :
    step s = .fault f := by
  simp only [step, ha, hf, if_true]

theorem step_of_decode_error {s : State} {bytes : List Byte} {r : DecodeReject} (ha : pcAligned s.iset s.pc = true)
    (hf : fetch s = .ok bytes) (hd : decodeBytes s.iset s.config.fetchByteOrder bytes = .error r) :
    step s = .refused (.notThisInstruction r) := by
  simp only [step, ha, hf, hd, if_true]

/-- Settles O11: one clause for each way in which `step` stops before `exec`. -/
theorem otherWordsHaveNoStep : Obligations.OtherWordsHaveNoStep := by
  intro s
  refine ⟨fun _ _ => step_of_decode_error, fun hi hpc => ?a32, fun hi hpc => ?t32, fun ha hm => ?noValue⟩
  case a32 => exact step_of_not_pcAligned (by rwa [hi, pcAligned_a32_iff])
  case t32 => exact step_of_not_pcAligned (by rwa [hi, pcAligned_t32_iff])
  case noValue => exact step_of_fetch_error ha (fetch_of_read_none hm)

end Sys2Proof.Machine
end

section
/-! The register views S and D: reads after writes (10_state.md R31, R32). -/

namespace Sys2Proof.Machine

/-! ### S[n] as a half of D[n div 2] -/

theorem readS_of_even {n : Nat} {s : State} (h : n % 2 = 0) : readS n s = (readD (n / 2) s).extractLsb' 0 32 :=
  if_pos h

theorem readS_of_odd {n : Nat} {s : State} (h : n % 2 = 1) : readS n s = (readD (n / 2) s).extractLsb' 32 32 :=
  if_neg (by omega)

theorem writeS_of_even {n : Nat} {v : Word} {s : State} (h : n % 2 = 0) :
    writeS n v s = writeD (n / 2) ((readD (n / 2) s).extractLsb' 32 32 ++ v) s :=
  if_pos h

theorem writeS_of_odd {n : Nat} {v : Word} {s : State} (h : n % 2 = 1) :
    writeS n v s = writeD (n / 2) (v ++ (readD (n / 2) s).extractLsb' 0 32) s :=
  if_neg (by omega)

theorem readD_writeS_other {n k : Nat} {v : Word} {s : State} (h : k ≠ n / 2) : readD k (writeS n v s) = readD k s := by
  rcases Nat.mod_two_eq_zero_or_one n with hn | hn
  · rw [writeS_of_even hn, readD_writeD_other h]
  · rw [writeS_of_odd hn, readD_writeD_other h]

theorem readS_writeS_same {n : Nat} {v : Word} {s : State} (h : n < 64) : readS n (writeS n v s) = v := by
  have hd : n / 2 < 32 := by omega
  rcases Nat.mod_two_eq_zero_or_one n with hn | hn
  · rw [readS_of_even hn, writeS_of_even hn, readD_writeD_same hd, BitVec.extractLsb'_append_eq_right]
  · rw [readS_of_odd hn, writeS_of_odd hn, readD_writeD_same hd, BitVec.extractLsb'_append_eq_left]

/-- A D number above 31 names no register (log 26). -/
theorem writeD_of_ge {n : Nat} {v : DWord} {s : State} (h : 32 ≤ n) : writeD n v s = s := by
  simp [writeD, Vector.setIfInBounds_eq_of_size_le h]

theorem writeS_of_ge {n : Nat} {v : Word} {s : State} (h : 64 ≤ n) : writeS n v s = s := by
  have hd : 32 ≤ n / 2 := by omega
  rcases Nat.mod_two_eq_zero_or_one n with hn | hn
  · rw [writeS_of_even hn, writeD_of_ge hd]
  · rw [writeS_of_odd hn, writeD_of_ge hd]

/-- A write to one half of a D register keeps its other half. -/
theorem readS_writeS_sibling {n m : Nat} {v : Word} {s : State} (hn : n < 64) (hd : m / 2 = n / 2) (hne : m ≠ n) :
    readS m (writeS n v s) = readS m s := by
  have hb : n / 2 < 32 := by omega
  rcases Nat.mod_two_eq_zero_or_one n with hpar | hpar
  · have hm : m % 2 = 1 := by omega
    rw [readS_of_odd hm, readS_of_odd hm, writeS_of_even hpar, hd, readD_writeD_same hb, BitVec.extractLsb'_append_eq_left]
  · have hm : m % 2 = 0 := by omega
    rw [readS_of_even hm, readS_of_even hm, writeS_of_odd hpar, hd, readD_writeD_same hb, BitVec.extractLsb'_append_eq_right]

theorem readS_congr {m : Nat} {s t : State} (h : readD (m / 2) t = readD (m / 2) s) : readS m t = readS m s := by
  simp only [readS, h]

theorem readS_writeS_other {n m : Nat} {v : Word} {s : State} (hne : m ≠ n) : readS m (writeS n v s) = readS m s := by
  by_cases hd : m / 2 = n / 2
  · rcases Nat.lt_or_ge n 64 with hn | hn
    · exact readS_writeS_sibling hn hd hne
    · rw [writeS_of_ge hn]
  · exact readS_congr (readD_writeS_other hd)

/-! ### A register write touches the register file only -/

theorem writeS_with_simd (n : Nat) (v : Word) (s : State) (w : Vector DWord 32) :
    { writeS n v s with simd := w } = { s with simd := w } := by
  unfold writeS; split <;> rfl

theorem writeDs_with_simd (d : Nat) (imm : DWord) (regs : Nat) (s : State) (w : Vector DWord 32) :
    { writeDs d imm regs s with simd := w } = { s with simd := w } := by
  induction regs with
  | zero => rfl
  | succ r ih => exact ih

theorem writeDestination_with_simd (k : DecodeConstants) (s : State) (w : Vector DWord 32) :
    { writeDestination k s with simd := w } = { s with simd := w } := by
  unfold writeDestination
  split
  · exact writeS_with_simd _ _ s w
  · exact writeDs_with_simd _ _ _ s w

/-! ### The number of an S register -/

/-- `Vd:D` as a number (30_encoding.md R89). -/
theorem regNumberS_toNat (dBit : BitVec 1) (vd : BitVec 4) :
    (regNumberS dBit vd).toNat = 2 * vd.toNat + dBit.toNat := by
  rw [regNumberS, BitVec.toNat_append, ← Nat.shiftLeft_add_eq_or_of_lt dBit.isLt, Nat.shiftLeft_eq]
  omega

/-- Settles O37: each clause is one law of the register views. -/
theorem singleRegistersAreHalvesOfDoubleRegisters : Obligations.SingleRegistersAreHalvesOfDoubleRegisters := by
  intro n v s hn
  exact ⟨readS_of_even, readS_of_odd, readS_writeS_same (by omega), fun _ _ => readS_writeS_other,
    fun _ => readD_writeS_other, writeS_with_simd n v s s.simd, regNumberS_toNat⟩

end Sys2Proof.Machine
end

section
/-! The condition check and ITSTATE (10_state.md R38, R39), and the start state (R47). -/

namespace Sys2Proof.Machine

/-! ### The condition check -/

theorem conditionPassed_even {cond : BitVec 4} {f : Flags} (h : cond.extractLsb' 0 1 = 0b0#1) :
    conditionPassed cond f = baseCondition cond f :=
  if_neg (by simp [h])

/-- An odd condition is the negation of what bits [3:1] select; 1111 is no condition of this kind (10_state.md R38). -/
theorem conditionPassed_odd {cond : BitVec 4} {f : Flags} (h : cond.extractLsb' 0 1 = 0b1#1) (hc : cond ≠ 0b1111#4) :
    conditionPassed cond f = !(baseCondition cond f) :=
  if_pos ⟨h, hc⟩

/-- Settles O40: an even condition and the odd one after it share a base condition, which the odd one negates. -/
theorem conditionTable : Obligations.ConditionTable := by
  intro f
  have ls : (!(f.c && !f.z)) = (!f.c || f.z) := by simp
  have lt : (!(f.n == f.v)) = (f.n != f.v) := rfl
  have le : (!(f.n == f.v && !f.z)) = (f.n != f.v || f.z) := by simp [bne]
  exact ⟨conditionPassed_even rfl, conditionPassed_odd rfl (by decide), conditionPassed_even rfl,
    conditionPassed_odd rfl (by decide), conditionPassed_even rfl, conditionPassed_odd rfl (by decide),
    conditionPassed_even rfl, conditionPassed_odd rfl (by decide),
    conditionPassed_even rfl, (conditionPassed_odd rfl (by decide)).trans ls,
    conditionPassed_even rfl, (conditionPassed_odd rfl (by decide)).trans lt,
    conditionPassed_even rfl, (conditionPassed_odd rfl (by decide)).trans le,
    conditionPassed_even rfl, rfl⟩

/-! ### ITSTATE -/

theorem condT32_of_inITBlock {it : BitVec 8} (h : inITBlock it = true) : condT32 it = it.extractLsb' 4 4 := by
  simp only [condT32, h, if_true]

theorem condT32_of_not_inITBlock {it : BitVec 8} (h : inITBlock it = false) : condT32 it = condAlways := by
  simp [condT32, h]

theorem itAdvance_last {it : BitVec 8} (h : it.extractLsb' 0 3 = 0b000#3) : itAdvance it = 0#8 :=
  if_pos h

theorem itAdvance_inner {it : BitVec 8} (h : it.extractLsb' 0 3 ≠ 0b000#3) :
    itAdvance it = it.extractLsb' 5 3 ++ (it.extractLsb' 0 5 <<< 1) :=
  if_neg h

/-- The mask, bits [3:0], is shifted by one place, in the advance that ends a block as well: it clears only a mask whose
low three bits are zero. -/
theorem itAdvance_mask (it : BitVec 8) : (itAdvance it).extractLsb' 0 4 = it.extractLsb' 0 4 <<< 1 := by
  by_cases h : it.extractLsb' 0 3 = 0b000#3
  · have low : it.toNat % 8 = 0 := by simpa [BitVec.toNat_eq] using h
    have out : it.toNat % 16 * 2 % 16 = 0 := by omega
    rw [itAdvance_last h]
    simp [BitVec.toNat_eq, Nat.shiftLeft_eq, out]
  · rw [itAdvance_inner h, BitVec.extractLsb'_append_eq_of_add_le (by decide)]
    simp [BitVec.toNat_eq, Nat.shiftLeft_eq]

theorem itAdvance_keeps_base {it : BitVec 8} (h : inITBlock (itAdvance it) = true) :
    (itAdvance it).extractLsb' 5 3 = it.extractLsb' 5 3 := by
  by_cases hl : it.extractLsb' 0 3 = 0b000#3
  · rw [itAdvance_last hl] at h
    exact absurd h (by decide)
  · rw [itAdvance_inner hl, BitVec.extractLsb'_append_eq_left]

theorem not_inITBlock_of_four_advances (it : BitVec 8) :
    inITBlock (itAdvance (itAdvance (itAdvance (itAdvance it)))) = false := by
  have shifted_out : ∀ mask : BitVec 4, mask <<< 1 <<< 1 <<< 1 <<< 1 = 0b0000#4 := by decide
  simp only [inITBlock, itAdvance_mask, shifted_out, bne_self_eq_false]

/-- Settles O41. -/
theorem itBlockEndsWithinFourInstructions : Obligations.ItBlockEndsWithinFourInstructions := fun it =>
  ⟨condT32_of_inITBlock, condT32_of_not_inITBlock, itAdvance_keeps_base, itAdvance_last,
    not_inITBlock_of_four_advances it⟩

/-! ### The start state -/

/-- Settles O49: no byte is listed, address 0 is aligned, and ITSTATE is zero. -/
theorem resetStateIsLegal : Obligations.ResetStateIsLegal :=
  ⟨reset_mem_wf, (pcAligned_a32_iff _).2 rfl, fun _ => rfl⟩

end Sys2Proof.Machine
end

section
/-! Every instruction is the common operation on its should-be-zero bits, its condition and the verdict of its decode
text; what the operation can write (10_state.md R33) and what it reads (R34). -/

namespace Sys2Proof.Machine

/-! ### One form for all 32 instructions (40_vmov_imm_operation.md R121) -/

/-- The verdict of an instruction's decode text (30_encoding.md R90). -/
def verdictOf (s : State) : Instr → Verdict
  | .a1I32D c d imm8 | .t1I32D c d imm8 => simdVerdict s.config 0b0#1 (0b0#1 ++ c ++ 0b0#1) 0b0#1 d imm8
  | .a1I32Q c d imm8 | .t1I32Q c d imm8 => simdVerdict s.config 0b0#1 (0b0#1 ++ c ++ 0b0#1) 0b1#1 d imm8
  | .a3I16D c d imm8 | .t3I16D c d imm8 => simdVerdict s.config 0b0#1 (0b10#2 ++ c ++ 0b0#1) 0b0#1 d imm8
  | .a3I16Q c d imm8 | .t3I16Q c d imm8 => simdVerdict s.config 0b0#1 (0b10#2 ++ c ++ 0b0#1) 0b1#1 d imm8
  | .a4I32D c d imm8 | .t4I32D c d imm8 => simdVerdict s.config 0b0#1 (0b110#3 ++ c) 0b0#1 d imm8
  | .a4I32Q c d imm8 | .t4I32Q c d imm8 => simdVerdict s.config 0b0#1 (0b110#3 ++ c) 0b1#1 d imm8
  | .a4I8D d imm8 | .t4I8D d imm8 => simdVerdict s.config 0b0#1 0b1110#4 0b0#1 d imm8
  | .a4I8Q d imm8 | .t4I8Q d imm8 => simdVerdict s.config 0b0#1 0b1110#4 0b1#1 d imm8
  | .a4F32D d imm8 | .t4F32D d imm8 => simdVerdict s.config 0b0#1 0b1111#4 0b0#1 d imm8
  | .a4F32Q d imm8 | .t4F32Q d imm8 => simdVerdict s.config 0b0#1 0b1111#4 0b1#1 d imm8
  | .a5I64D d imm8 | .t5I64D d imm8 => simdVerdict s.config 0b1#1 0b1110#4 0b0#1 d imm8
  | .a5I64Q d imm8 | .t5I64Q d imm8 => simdVerdict s.config 0b1#1 0b1110#4 0b1#1 d imm8
  | .a2F16 cond d imm8 _ => fpVerdict 0b01#2 d imm8 (cond != 0b1110#4) s
  | .a2F32 cond d imm8 _ => fpVerdict 0b10#2 d imm8 (cond != 0b1110#4) s
  | .a2F64 cond d imm8 _ => fpVerdict 0b11#2 d imm8 (cond != 0b1110#4) s
  | .a2Size00 cond d imm8 _ => fpVerdict 0b00#2 d imm8 (cond != 0b1110#4) s
  | .t2F16 d imm8 _ => fpVerdict 0b01#2 d imm8 (inITBlock s.itstate) s
  | .t2F32 d imm8 _ => fpVerdict 0b10#2 d imm8 (inITBlock s.itstate) s
  | .t2F64 d imm8 _ => fpVerdict 0b11#2 d imm8 (inITBlock s.itstate) s
  | .t2Size00 d imm8 _ => fpVerdict 0b00#2 d imm8 (inITBlock s.itstate) s

theorem operateSbz_zero (cond : BitVec 4) (v : Verdict) (s : State) : operateSbz 0#2 cond v s = operate cond v s :=
  if_neg (by simp)

/-- `sbzOf` answers 0 for an Advanced SIMD encoding, which has no should-be-zero bits to test. -/
theorem exec_eq_operateSbz (i : Instr) (s : State) :
    exec i s = operateSbz (sbzOf i) (currentCond s i) (verdictOf s i) s := by
  cases i <;> simp only [exec, sbzOf, operateSbz_zero] <;> rfl

/-- The constants a verdict lets the operation go on with. -/
def Verdict.constants : Verdict → Option DecodeConstants
  | .undefined => none
  | .unpredictable k => some k
  | .ok k => some k

/-! ### The words of the register file that a destination holds -/

theorem readHalf_eq_readS (h : Nat) (s : State) : readHalf h s = readS h s := by
  rcases Nat.mod_two_eq_zero_or_one h with hh | hh
  · rw [readS_of_even hh, readHalf, hh]
  · rw [readS_of_odd hh, readHalf, hh]

/-- The words of the destination of R124 and R125: the one S register, or the two words of each D register. -/
def destinationHalves (k : DecodeConstants) : List Nat :=
  if k.esize ≤ 32 then [k.d] else List.range' (2 * k.d) (2 * k.regs)

/-- What the write leaves in word `h` of the destination. -/
def destinationWord (k : DecodeConstants) (h : Nat) : Word :=
  if k.esize ≤ 32 then k.imm.setWidth 32 else k.imm.extractLsb' (32 * (h % 2)) 32

theorem readD_writeDs_same {d regs m : Nat} {imm : DWord} {s : State} (hm : m < 32) (h : d ≤ m ∧ m < d + regs) :
    readD m (writeDs d imm regs s) = imm := by
  induction regs with
  | zero => omega
  | succ r ih =>
    by_cases hr : m = d + r
    · subst hr
      exact readD_writeD_same hm
    · exact (readD_writeD_other hr).trans (ih (by omega))

theorem readD_writeDs_other {d regs m : Nat} {imm : DWord} {s : State} (h : ¬ (d ≤ m ∧ m < d + regs)) :
    readD m (writeDs d imm regs s) = readD m s := by
  induction regs with
  | zero => rfl
  | succ r ih => exact (readD_writeD_other (by omega)).trans (ih (by omega))

theorem mem_destinationHalves_S {k : DecodeConstants} {h : Nat} (he : k.esize ≤ 32) :
    h ∈ destinationHalves k ↔ h = k.d := by
  simp [destinationHalves, he]

theorem mem_destinationHalves_D {k : DecodeConstants} {h : Nat} (he : ¬ k.esize ≤ 32) :
    h ∈ destinationHalves k ↔ k.d ≤ h / 2 ∧ h / 2 < k.d + k.regs := by
  simp only [destinationHalves, he, if_false, List.mem_range'_1]
  omega

theorem readHalf_writeDestination_same {k : DecodeConstants} {h : Nat} {s : State} (h64 : h < 64)
    (hk : h ∈ destinationHalves k) : readHalf h (writeDestination k s) = destinationWord k h := by
  by_cases he : k.esize ≤ 32
  · obtain rfl := (mem_destinationHalves_S he).1 hk
    rw [readHalf_eq_readS, writeDestination, if_pos he, destinationWord, if_pos he, readS_writeS_same h64]
  · rw [readHalf, writeDestination, if_neg he, destinationWord, if_neg he,
      readD_writeDs_same (by omega) ((mem_destinationHalves_D he).1 hk)]

theorem readHalf_writeDestination_other {k : DecodeConstants} {h : Nat} {s : State}
    (hk : h ∉ destinationHalves k) : readHalf h (writeDestination k s) = readHalf h s := by
  by_cases he : k.esize ≤ 32
  · rw [mem_destinationHalves_S he] at hk
    rw [readHalf_eq_readS, readHalf_eq_readS, writeDestination, if_pos he, readS_writeS_other hk]
  · rw [mem_destinationHalves_D he] at hk
    rw [readHalf, readHalf, writeDestination, if_neg he, readD_writeDs_other hk]

/-! ### Which words an instruction writes (10_state.md R33) -/

theorem simdVerdict_constants {cfg : Config} {op q : BitVec 1} {cmode : BitVec 4} {d : BitVec 5} {imm8 : BitVec 8}
    {k : DecodeConstants} (h : (simdVerdict cfg op cmode q d imm8).constants = some k) :
    k.d = d.toNat ∧ k.esize = 64 ∧ k.regs = if q = 0b0#1 then 1 else 2 := by
  unfold simdVerdict at h
  split at h
  · cases h
  · cases h; exact ⟨rfl, rfl, rfl⟩

theorem fpVerdict_constants {size : BitVec 2} {d : BitVec 5} {imm8 : BitVec 8} {conditional : Bool} {s : State}
    {k : DecodeConstants} (h : (fpVerdict size d imm8 conditional s).constants = some k) :
    size ≠ 0b00#2 ∧ k = fpConstants s.config size d imm8 := by
  unfold fpVerdict at h
  split at h
  · cases h
  · split at h
    · cases h
    · next hu =>
      have hk : some (fpConstants s.config size d imm8) = some k := by split at h <;> exact h
      exact ⟨fun hz => hu (.inl hz), (Option.some.inj hk).symm⟩

theorem destinationHalves_S {k : DecodeConstants} {d : BitVec 5} (h : k.d = d.toNat ∧ k.esize ≤ 32) :
    destinationHalves k = [d.toNat] := by
  obtain ⟨hd, he⟩ := h
  rw [destinationHalves, if_pos he, hd]

theorem destinationHalves_D {k : DecodeConstants} {d : BitVec 5} (h : k.d = d.toNat ∧ k.esize = 64 ∧ k.regs = 1) :
    destinationHalves k = [2 * d.toNat, 2 * d.toNat + 1] := by
  obtain ⟨hd, he, hr⟩ := h
  rw [destinationHalves, if_neg (by omega), hd, hr]
  rfl

theorem destinationHalves_Q {k : DecodeConstants} {d : BitVec 5} (h : k.d = d.toNat ∧ k.esize = 64 ∧ k.regs = 2) :
    destinationHalves k = [2 * d.toNat, 2 * d.toNat + 1, 2 * d.toNat + 2, 2 * d.toNat + 3] := by
  obtain ⟨hd, he, hr⟩ := h
  rw [destinationHalves, if_neg (by omega), hd, hr]
  rfl

theorem destinationHalves_of_verdictOf {i : Instr} {s : State} {k : DecodeConstants}
    (h : (verdictOf s i).constants = some k) : destinationHalves k = writtenHalves i := by
  cases i with
  | a1I32D | a3I16D | a4I32D | a4I8D | a4F32D | a5I64D | t1I32D | t3I16D | t4I32D | t4I8D | t4F32D | t5I64D =>
    exact destinationHalves_D (simdVerdict_constants h)
  | a1I32Q | a3I16Q | a4I32Q | a4I8Q | a4F32Q | a5I64Q | t1I32Q | t3I16Q | t4I32Q | t4I8Q | t4F32Q | t5I64Q =>
    exact destinationHalves_Q (simdVerdict_constants h)
  | a2F16 | a2F32 | t2F16 | t2F32 =>
    obtain ⟨_, rfl⟩ := fpVerdict_constants h
    exact destinationHalves_S ⟨rfl, by simp [fpConstants]⟩
  | a2F64 | t2F64 =>
    obtain ⟨_, rfl⟩ := fpVerdict_constants h
    exact destinationHalves_D ⟨rfl, rfl, rfl⟩
  | a2Size00 | t2Size00 => exact absurd rfl (fpVerdict_constants h).1

/-! ### The frame (10_state.md R48) -/

theorem readHalf_consumeChoice (h : Nat) (s : State) : readHalf h (consumeChoice s) = readHalf h s := rfl

theorem readHalf_advance (h : Nat) (s : State) : readHalf h (advance s) = readHalf h s := rfl

/-- The operation changes no word outside the destination that the verdict names, if it names one. -/
theorem readHalf_of_operate_next {cond : BitVec 4} {v : Verdict} {s t : State} {h : Nat} (ht : operate cond v s = .next t)
    (hk : ∀ k, v.constants = some k → h ∉ destinationHalves k) : readHalf h t = readHalf h s := by
  have failed : ∀ u, conditionFailed u s = .next t → readHalf h t = readHalf h s := fun u hu => by
    rcases conditionFailed_next hu with rfl | rfl <;> rfl
  unfold operate at ht
  split at ht
  · next k =>
    rcases constrainedUnpredictable_next ht with ⟨_, rfl⟩ | rfl
    · rw [readHalf_advance, readHalf_writeDestination_other (hk k rfl), readHalf_consumeChoice]
    · rfl
  · split at ht
    · cases ht
    · exact failed _ ht
  · next k =>
    split at ht
    · obtain ⟨_, rfl⟩ := execute_next ht
      rw [readHalf_advance, readHalf_writeDestination_other (hk k rfl)]
    · exact failed _ ht

theorem operate_of_operateSbz_next {sbz : BitVec 2} {cond : BitVec 4} {v : Verdict} {s t : State}
    (h : operateSbz sbz cond v s = .next t) : operate cond v s = .next t := by
  unfold operateSbz at h
  split at h
  · cases h
  · exact h

theorem readHalf_of_exec_next {i : Instr} {s t : State} {h : Nat} (ht : exec i s = .next t) (hw : h ∉ writtenHalves i) :
    readHalf h t = readHalf h s := by
  rw [exec_eq_operateSbz] at ht
  refine readHalf_of_operate_next (operate_of_operateSbz_next ht) fun k hk => ?_
  rwa [destinationHalves_of_verdictOf hk]

theorem Completes.sameOutside {s t : State} (h : Completes s t) : sameOutside s t := by
  obtain ⟨hcfg, hgpr, hiset, hflags, hfpscr, hctl, hdit, hmem, _, _⟩ := h.frame
  exact ⟨hcfg, hgpr, hiset, hflags, hfpscr, hctl, hdit, fun a => by rw [hmem]⟩

/-- Settles O29: the frame of `Completes` for all but the register file, and for that the words of the destination. -/
theorem completedInstructionFrame : Obligations.CompletedInstructionFrame := by
  intro i s t ht
  have hc : Completes s t := exec_next ht
  obtain ⟨_, _, _, _, _, _, _, _, hpc, hit⟩ := hc.frame
  exact ⟨hc.sameOutside, hpc, hit, fun _ _ hw => readHalf_of_exec_next ht hw⟩

/-- Settles O48: a step is the execution of the instruction it fetched and decoded, whose frame is O29. -/
theorem everyStepChangesOnlyRegistersPcAndItstate : Obligations.EveryStepChangesOnlyRegistersPcAndItstate := by
  intro s t ht
  obtain ⟨_, bytes, rest, i, hfetch, hdecode, hexec⟩ := step_next ht
  exact ⟨bytes, rest, i, hfetch, hdecode, completedInstructionFrame i s t hexec⟩

end Sys2Proof.Machine
end

section
/-! Two runs from states that differ in the register file only (10_state.md R34). -/

namespace Sys2Proof.Machine

/-- Outcomes of one operation, run from `s` and from `s` with the register file `v`, that show no value read from a
register: the same fault, or next states equal but for the register file, each word of which both runs wrote alike or
both left alone. -/
inductive AgreeButForSimd (s : State) (v : Vector DWord 32) :
    Host.Outcome State Fault Refusal → Host.Outcome State Fault Refusal → Prop where
  | fault (f : Fault) : AgreeButForSimd s v (.fault f) (.fault f)
  | next (t u : State) (frame : { u with simd := t.simd } = t)
      (words : ∀ h < 64, readHalf h u = readHalf h t ∨
        (readHalf h t = readHalf h s ∧ readHalf h u = readHalf h { s with simd := v })) :
      AgreeButForSimd s v (.next t) (.next u)

/-- A free choice consumed before the operation is no part of the register file. -/
theorem AgreeButForSimd.of_consumeChoice {s : State} {v : Vector DWord 32} {o p : Host.Outcome State Fault Refusal}
    (h : AgreeButForSimd (consumeChoice s) v o p) : AgreeButForSimd s v o p := by
  cases h with
  | fault f => exact .fault f
  | next t u frame words => exact .next t u frame words

theorem nop_agreeButForSimd (s : State) (v : Vector DWord 32) :
    AgreeButForSimd s v (nop s) (nop { s with simd := v }) :=
  .next _ _ rfl fun _ _ => .inr ⟨rfl, rfl⟩

theorem advance_with_simd (s : State) (w : Vector DWord 32) :
    { advance s with simd := w } = advance { s with simd := w } := rfl

/-- The destination is written without being read: a word of it ends up as `destinationWord` in both runs. -/
theorem write_agreeButForSimd (k : DecodeConstants) (s : State) (v : Vector DWord 32) :
    AgreeButForSimd s v (.next (advance (writeDestination k s)))
      (.next (advance (writeDestination k { s with simd := v }))) := by
  refine .next _ _ ?frame fun h h64 => ?words
  case frame =>
    rw [advance_with_simd, writeDestination_with_simd, advance_simd]
    exact congrArg advance (writeDestination_with_simd k s _).symm
  case words =>
    simp only [readHalf_advance]
    by_cases hk : h ∈ destinationHalves k
    · exact .inl (by rw [readHalf_writeDestination_same h64 hk, readHalf_writeDestination_same h64 hk])
    · exact .inr ⟨readHalf_writeDestination_other hk, readHalf_writeDestination_other hk⟩

theorem execute_agreeButForSimd (k : DecodeConstants) (s : State) (v : Vector DWord 32) :
    AgreeButForSimd s v (execute k s) (execute k { s with simd := v }) := by
  unfold execute raise
  cases fpSimdAccess s.config s.ctl k.advsimd with
  | undefined => exact .fault _
  | hypTrap => exact .fault _
  | enabled => exact write_agreeButForSimd k s v

theorem constrainedUnpredictable_agreeButForSimd (k : DecodeConstants) (s : State) (v : Vector DWord 32) :
    AgreeButForSimd s v (constrainedUnpredictable k s) (constrainedUnpredictable k { s with simd := v }) := by
  unfold constrainedUnpredictable raise
  cases Config.cuFp16Cond s.choices with
  | undefined => exact .fault _
  | executeUnconditionally => exact .of_consumeChoice (execute_agreeButForSimd k (consumeChoice s) v)
  | nop => exact .of_consumeChoice (nop_agreeButForSimd (consumeChoice s) v)

theorem conditionFailed_agreeButForSimd (u : Bool) (s : State) (v : Vector DWord 32) :
    AgreeButForSimd s v (conditionFailed u s) (conditionFailed u { s with simd := v }) := by
  unfold conditionFailed raise
  cases s.config.condFailUndef && u with
  | false => exact nop_agreeButForSimd s v
  | true =>
    cases Config.condFailUndefTaken s.choices with
    | false => exact .of_consumeChoice (nop_agreeButForSimd (consumeChoice s) v)
    | true => exact .fault _

theorem operate_agreeButForSimd (cond : BitVec 4) (verdict : Verdict) (s : State) (v : Vector DWord 32) :
    AgreeButForSimd s v (operate cond verdict s) (operate cond verdict { s with simd := v }) := by
  unfold operate
  cases verdict with
  | unpredictable k => exact constrainedUnpredictable_agreeButForSimd k s v
  | undefined =>
    cases conditionPassed cond s.flags with
    | false => exact conditionFailed_agreeButForSimd _ s v
    | true => exact .fault _
  | ok k =>
    cases conditionPassed cond s.flags with
    | false => exact conditionFailed_agreeButForSimd _ s v
    | true => exact execute_agreeButForSimd k s v

theorem operateSbz_agreeButForSimd (sbz : BitVec 2) (cond : BitVec 4) (verdict : Verdict) (s : State)
    (v : Vector DWord 32) :
    AgreeButForSimd s v (operateSbz sbz cond verdict s) (operateSbz sbz cond verdict { s with simd := v }) := by
  unfold operateSbz raise
  split
  · exact .fault _
  · exact operate_agreeButForSimd cond verdict s v

theorem currentCond_with_simd (i : Instr) (s : State) (v : Vector DWord 32) :
    currentCond { s with simd := v } i = currentCond s i := by
  cases i <;> rfl

theorem verdictOf_with_simd (i : Instr) (s : State) (v : Vector DWord 32) :
    verdictOf { s with simd := v } i = verdictOf s i := by
  cases i <;> rfl

theorem exec_agreeButForSimd (i : Instr) (s : State) (v : Vector DWord 32) :
    AgreeButForSimd s v (exec i s) (exec i { s with simd := v }) := by
  rw [exec_eq_operateSbz, exec_eq_operateSbz, currentCond_with_simd, verdictOf_with_simd]
  exact operateSbz_agreeButForSimd _ _ _ s v

/-- Settles O33: the two clauses are the two ways in which the outcomes of `exec_agreeButForSimd` can agree. -/
theorem executionReadsNoSimdRegister : Obligations.ExecutionReadsNoSimdRegister := by
  intro i s v
  have hagree := exec_agreeButForSimd i s v
  constructor
  · intro t ht
    rw [ht] at hagree
    generalize exec i { s with simd := v } = o at hagree
    cases hagree with
    | next _ u frame words => exact ⟨u, rfl, frame, words⟩
  · intro f hf
    rw [hf] at hagree
    generalize exec i { s with simd := v } = o at hagree
    cases hagree with
    | fault _ => rfl

end Sys2Proof.Machine
end

section
/-! The invariant of every step: memory stays canonical, `pc` aligned, ITSTATE zero in A32 state (20_memory.md R63;
10_state.md R39). -/

namespace Sys2Proof.Machine

/-- "The advance by 4 preserves either alignment" (20_memory.md R63), the wrap at 2^32 included. -/
theorem pcAligned_add_four {t : ISet} {pc : Word} (h : pcAligned t pc = true) : pcAligned t (pc + 4#32) = true := by
  have hadd : (pc + 4#32).toNat = (pc.toNat + 4) % 2 ^ 32 := BitVec.toNat_add pc 4#32
  cases t with
  | a32 => rw [pcAligned_a32_iff] at h ⊢; omega
  | t32 => rw [pcAligned_t32_iff] at h ⊢; omega

theorem itAfter_of_a32 {s : State} (h : s.iset = .a32) : itAfter s = s.itstate := by
  simp only [itAfter, h]

theorem Completes.legal {s t : State} (h : Completes s t) (hs : s.legal) : t.legal := by
  obtain ⟨hwf, haligned, hit⟩ := hs
  obtain ⟨_, _, hiset, _, _, _, _, hmem, hpc, hitAfter⟩ := h.frame
  refine ⟨?memory, ?alignment, fun ha => ?itstate⟩
  case memory => rwa [hmem]
  case alignment => rw [hiset, hpc]; exact pcAligned_add_four haligned
  case itstate =>
    have hsa : s.iset = .a32 := hiset ▸ ha
    rw [hitAfter, itAfter_of_a32 hsa, hit hsa]

/-- Settles O47: a step that answers a next state completes an instruction, and no completion leaves legality. -/
theorem everyStepKeepsTheStateLegal : Obligations.EveryStepKeepsTheStateLegal := by
  intro s t hs ht
  obtain ⟨_, _, _, _, _, _, hexec⟩ := step_next ht
  exact (exec_next hexec).legal hs

end Sys2Proof.Machine
end

section
/-! Two runs from states that differ in memory only: no instruction reads or writes it (20_memory.md R60). -/

namespace Sys2Proof.Machine

/-- The outcome with the memory `m` in its next state, if it has one. -/
def outcomeWithMem (m : Memory) : Host.Outcome State Fault Refusal → Host.Outcome State Fault Refusal
  | .next t => .next { t with mem := m }
  | .fault f => .fault f
  | .refused r => .refused r

/-! ### Each operation commutes with a replacement of memory -/

theorem writeS_with_mem (n : Nat) (v : Word) (s : State) (m : Memory) :
    writeS n v { s with mem := m } = { writeS n v s with mem := m } := by
  unfold writeS; split <;> rfl

theorem writeDs_with_mem (d : Nat) (imm : DWord) (regs : Nat) (s : State) (m : Memory) :
    writeDs d imm regs { s with mem := m } = { writeDs d imm regs s with mem := m } := by
  induction regs with
  | zero => rfl
  | succ r ih => exact congrArg (writeD (d + r) imm) ih

theorem writeDestination_with_mem (k : DecodeConstants) (s : State) (m : Memory) :
    writeDestination k { s with mem := m } = { writeDestination k s with mem := m } := by
  unfold writeDestination
  split
  · exact writeS_with_mem _ _ s m
  · exact writeDs_with_mem _ _ _ s m

theorem execute_with_mem (k : DecodeConstants) (s : State) (m : Memory) :
    execute k { s with mem := m } = outcomeWithMem m (execute k s) := by
  unfold execute
  cases fpSimdAccess s.config s.ctl k.advsimd with
  | undefined => rfl
  | hypTrap => rfl
  | enabled => exact congrArg (fun t => Host.Outcome.next (advance t)) (writeDestination_with_mem k s m)

theorem constrainedUnpredictable_with_mem (k : DecodeConstants) (s : State) (m : Memory) :
    constrainedUnpredictable k { s with mem := m } = outcomeWithMem m (constrainedUnpredictable k s) := by
  unfold constrainedUnpredictable
  cases Config.cuFp16Cond s.choices with
  | undefined => rfl
  | executeUnconditionally => exact execute_with_mem k (consumeChoice s) m
  | nop => rfl

theorem conditionFailed_with_mem (u : Bool) (s : State) (m : Memory) :
    conditionFailed u { s with mem := m } = outcomeWithMem m (conditionFailed u s) := by
  unfold conditionFailed
  cases s.config.condFailUndef && u with
  | false => rfl
  | true => cases Config.condFailUndefTaken s.choices <;> rfl

theorem operate_with_mem (cond : BitVec 4) (v : Verdict) (s : State) (m : Memory) :
    operate cond v { s with mem := m } = outcomeWithMem m (operate cond v s) := by
  unfold operate
  cases v with
  | unpredictable k => exact constrainedUnpredictable_with_mem k s m
  | undefined =>
    cases conditionPassed cond s.flags with
    | false => exact conditionFailed_with_mem _ s m
    | true => rfl
  | ok k =>
    cases conditionPassed cond s.flags with
    | false => exact conditionFailed_with_mem _ s m
    | true => exact execute_with_mem k s m

theorem operateSbz_with_mem (sbz : BitVec 2) (cond : BitVec 4) (v : Verdict) (s : State) (m : Memory) :
    operateSbz sbz cond v { s with mem := m } = outcomeWithMem m (operateSbz sbz cond v s) := by
  unfold operateSbz
  split
  · rfl
  · exact operate_with_mem cond v s m

theorem currentCond_with_mem (i : Instr) (s : State) (m : Memory) :
    currentCond { s with mem := m } i = currentCond s i := by
  cases i <;> rfl

theorem verdictOf_with_mem (i : Instr) (s : State) (m : Memory) :
    verdictOf { s with mem := m } i = verdictOf s i := by
  cases i <;> rfl

theorem exec_with_mem (i : Instr) (s : State) (m : Memory) :
    exec i { s with mem := m } = outcomeWithMem m (exec i s) := by
  rw [exec_eq_operateSbz, exec_eq_operateSbz, currentCond_with_mem, verdictOf_with_mem]
  exact operateSbz_with_mem _ _ _ s m

theorem mem_of_exec_next {i : Instr} {s t : State} (h : exec i s = .next t) : t.mem = s.mem := by
  obtain ⟨_, _, _, _, _, _, _, hmem, _, _⟩ := (exec_next h).frame
  exact hmem

/-- Settles O32: that memory is not written is the frame, and that it is not read is `exec_with_mem`. -/
theorem executionIgnoresAndKeepsMemory : Obligations.ExecutionIgnoresAndKeepsMemory := by
  intro i s m
  constructor
  · intro t ht
    refine ⟨fun a => by rw [mem_of_exec_next ht], ?_⟩
    rw [exec_with_mem, ht, outcomeWithMem]
  · intro f hf
    rw [exec_with_mem, hf, outcomeWithMem]

end Sys2Proof.Machine
end

section
/-! The decoder reads back what the encoder writes: fields, then words, then bytes in memory order (30_encoding.md R76
to R79, R91, R92; 20_memory.md R62). -/

namespace Sys2Proof

/-! ### Fields of fields, and fields put together again -/

theorem extractLsb'_extractLsb' {w a n b m : Nat} (x : BitVec w) (h : b + m ≤ n) :
    (x.extractLsb' a n).extractLsb' b m = x.extractLsb' (a + b) m := by
  ext i hi
  simp [show b + i < n by omega, Nat.add_assoc]

theorem regNumberD_of_fields (d : BitVec 5) : regNumberD (d.extractLsb' 4 1) (d.extractLsb' 0 4) = d :=
  BitVec.extractLsb'_append_extractLsb'

theorem regNumberS_of_fields (d : BitVec 5) : regNumberS (d.extractLsb' 0 1) (d.extractLsb' 1 4) = d :=
  BitVec.extractLsb'_append_extractLsb'

theorem sbz_of_bits (sbz : BitVec 2) : sbz.extractLsb' 1 1 ++ sbz.extractLsb' 0 1 = sbz :=
  BitVec.extractLsb'_append_extractLsb'

/-- `imm4H:imm4L` (30_encoding.md R84). -/
theorem imm8_of_nibbles (imm8 : BitVec 8) : imm8.extractLsb' 4 4 ++ imm8.extractLsb' 0 4 = imm8 :=
  BitVec.extractLsb'_append_extractLsb'

/-- `i:imm3:imm4` (30_encoding.md R83). -/
theorem imm8_of_fields (imm8 : BitVec 8) :
    imm8.extractLsb' 7 1 ++ imm8.extractLsb' 4 3 ++ imm8.extractLsb' 0 4 = imm8 := by
  have upper : imm8.extractLsb' 7 1 ++ imm8.extractLsb' 4 3 = imm8.extractLsb' 4 4 :=
    BitVec.extractLsb'_append_extractLsb'_eq_extractLsb' rfl
  rw [upper, imm8_of_nibbles]

theorem half_of_bytes (h : Half) : h.extractLsb' 8 8 ++ h.extractLsb' 0 8 = h :=
  BitVec.extractLsb'_append_extractLsb'

theorem word_of_bytes (w : Word) :
    w.extractLsb' 24 8 ++ w.extractLsb' 16 8 ++ w.extractLsb' 8 8 ++ w.extractLsb' 0 8 = w := by
  have upper16 : w.extractLsb' 24 8 ++ w.extractLsb' 16 8 = w.extractLsb' 16 16 :=
    BitVec.extractLsb'_append_extractLsb'_eq_extractLsb' rfl
  have upper24 : w.extractLsb' 16 16 ++ w.extractLsb' 8 8 = w.extractLsb' 8 24 :=
    BitVec.extractLsb'_append_extractLsb'_eq_extractLsb' rfl
  rw [upper16, upper24]
  exact BitVec.extractLsb'_append_extractLsb'

/-! ### The decoder on the four formats

In each proof the first step reads every field off the concatenation, and the second puts the split operands
together. -/

theorem decodeA32_encodeSimdA32 (op : BitVec 1) (cmode : BitVec 4) (q : BitVec 1) (d : BitVec 5) (imm8 : BitVec 8) :
    decodeA32 (encodeSimdA32 op cmode q d imm8) = decodeSimdFields .a32 op cmode q d imm8 := by
  simp (disch := decide) only [decodeA32, encodeSimdA32, BitVec.extractLsb'_append_eq_of_add_le,
    BitVec.extractLsb'_append_eq_of_le]
  simp [imm8_of_fields, regNumberD_of_fields]

theorem decodeWord_encodeSimdT32 (op : BitVec 1) (cmode : BitVec 4) (q : BitVec 1) (d : BitVec 5) (imm8 : BitVec 8) :
    decodeWord .t32 (encodeSimdT32 op cmode q d imm8) = decodeSimdFields .t32 op cmode q d imm8 := by
  simp (disch := decide) only [decodeWord, decodeT32, encodeSimdT32, extractLsb'_extractLsb',
    BitVec.extractLsb'_append_eq_of_add_le, BitVec.extractLsb'_append_eq_of_le]
  simp [imm8_of_fields, regNumberD_of_fields]

/-- With `cond` 1111 the word is in the unconditional space (30_encoding.md R98). -/
theorem decodeA32_encodeFpA32 {cond : BitVec 4} (hc : cond ≠ 0b1111#4) (size : BitVec 2) (dBit : BitVec 1)
    (vd : BitVec 4) (imm8 : BitVec 8) (sbz : BitVec 2) :
    decodeA32 (encodeFpA32 cond size dBit vd imm8 sbz) = .ok (decodeA2Fields cond dBit vd imm8 size sbz) := by
  simp (disch := decide) only [decodeA32, encodeFpA32, BitVec.extractLsb'_append_eq_of_add_le,
    BitVec.extractLsb'_append_eq_of_le]
  simp [imm8_of_nibbles, sbz_of_bits, hc]

theorem decodeWord_encodeFpT32 (size : BitVec 2) (dBit : BitVec 1) (vd : BitVec 4) (imm8 : BitVec 8)
    (sbz : BitVec 2) :
    decodeWord .t32 (encodeFpT32 size dBit vd imm8 sbz) = .ok (decodeT2Fields dBit vd imm8 size sbz) := by
  simp (disch := decide) only [decodeWord, decodeT32, encodeFpT32, extractLsb'_extractLsb',
    BitVec.extractLsb'_append_eq_of_add_le, BitVec.extractLsb'_append_eq_of_le]
  simp [imm8_of_nibbles, sbz_of_bits]

/-! ### The decoder on the encoder's words -/

theorem bitVec2_cases : ∀ c : BitVec 2, c = 0#2 ∨ c = 1#2 ∨ c = 2#2 ∨ c = 3#2 := by decide

/-- The tests of `decodeSimdFields` are on `op`, `cmode` and `Q` only, which a constructor fixes but for its `c`. -/
theorem decodeWord_encode {i : Instr} (h : i.wellFormed = true) : decodeWord i.iset (encode i) = .ok i := by
  cases i with
  | a1I32D c | a1I32Q c =>
    refine (decodeA32_encodeSimdA32 ..).trans ?_
    rcases bitVec2_cases c with rfl | rfl | rfl | rfl <;> rfl
  | t1I32D c | t1I32Q c =>
    refine (decodeWord_encodeSimdT32 ..).trans ?_
    rcases bitVec2_cases c with rfl | rfl | rfl | rfl <;> rfl
  | a3I16D c | a3I16Q c | a4I32D c | a4I32Q c =>
    refine (decodeA32_encodeSimdA32 ..).trans ?_
    rcases BitVec.eq_zero_or_eq_one c with rfl | rfl <;> rfl
  | t3I16D c | t3I16Q c | t4I32D c | t4I32Q c =>
    refine (decodeWord_encodeSimdT32 ..).trans ?_
    rcases BitVec.eq_zero_or_eq_one c with rfl | rfl <;> rfl
  | a4I8D | a4I8Q | a4F32D | a4F32Q | a5I64D | a5I64Q => exact decodeA32_encodeSimdA32 ..
  | t4I8D | t4I8Q | t4F32D | t4F32Q | t5I64D | t5I64Q => exact decodeWord_encodeSimdT32 ..
  | a2F16 | a2F32 =>
    refine (decodeA32_encodeFpA32 (bne_iff_ne.1 h) ..).trans ?_
    simp [decodeA2Fields, regNumberS_of_fields]
  | a2F64 | a2Size00 =>
    refine (decodeA32_encodeFpA32 (bne_iff_ne.1 h) ..).trans ?_
    simp [decodeA2Fields, regNumberD_of_fields]
  | t2F16 | t2F32 =>
    refine (decodeWord_encodeFpT32 ..).trans ?_
    simp [decodeT2Fields, regNumberS_of_fields]
  | t2F64 | t2Size00 =>
    refine (decodeWord_encodeFpT32 ..).trans ?_
    simp [decodeT2Fields, regNumberD_of_fields]

/-! ### Every T32 VMOV (immediate) is a 32-bit instruction (30_encoding.md R100) -/

/-- The first halfwords of the two patterns of R92 begin with 111x1 and with 11101. -/
theorem isWideT32_of_decodeT32_ok {hw1 hw2 : Half} {i : Instr} (h : decodeT32 hw1 hw2 = .ok i) :
    isWideT32 hw1 = true := by
  unfold decodeT32 at h
  split at h
  · next hpattern =>
    obtain ⟨htop, hmid, _⟩ := hpattern
    have bit11 : (hw1.extractLsb' 7 5).extractLsb' 4 1 = hw1.extractLsb' 11 1 :=
      extractLsb'_extractLsb' hw1 (by decide)
    have upper : hw1.extractLsb' 13 3 ++ hw1.extractLsb' 12 1 = hw1.extractLsb' 12 4 :=
      BitVec.extractLsb'_append_extractLsb'_eq_extractLsb' rfl
    have top5 : hw1.extractLsb' 12 4 ++ hw1.extractLsb' 11 1 = hw1.extractLsb' 11 5 :=
      BitVec.extractLsb'_append_extractLsb'_eq_extractLsb' rfl
    have wide : ∀ x : BitVec 1, 0b111#3 ++ x ++ 0b1#1 = 0b11101#5 ∨ 0b111#3 ++ x ++ 0b1#1 = 0b11111#5 := by decide
    rw [← bit11, ← upper, htop, hmid] at top5
    rcases wide (hw1.extractLsb' 12 1) with hw | hw
    · simp [isWideT32, top5.symm.trans hw]
    · simp [isWideT32, top5.symm.trans hw]
  · split at h
    · next hpattern =>
      obtain ⟨hfixed, _⟩ := hpattern
      have top5 : (hw1.extractLsb' 7 9).extractLsb' 4 5 = hw1.extractLsb' 11 5 :=
        extractLsb'_extractLsb' hw1 (by decide)
      rw [hfixed] at top5
      simp [isWideT32, ← top5]
    · cases h

theorem isWideT32_of_decodeBytes_ok {order : ByteOrder} {b0 b1 : Byte} {more : List Byte} {r : Instr × List Byte}
    (h : decodeBytes .t32 order (b0 :: b1 :: more) = .ok r) : isWideT32 (halfOfBytes order b0 b1) = true := by
  simp only [decodeBytes] at h
  split at h
  · next hw => exact hw
  · cases h

/-! ### The decoder on bytes as memory holds them -/

theorem decodeBytes_bytesOfWord {t : ISet} {w : Word} {i : Instr} (order : ByteOrder) (rest : List Byte)
    (h : decodeWord t w = .ok i) : decodeBytes t order (bytesOfWord t order w ++ rest) = .ok (i, rest) := by
  cases t with
  | a32 =>
    have hd : decodeA32 w = .ok i := h
    cases order <;>
      simp only [bytesOfWord, decodeBytes, wordOfBytes, word_of_bytes, List.cons_append, List.nil_append, hd]
  | t32 =>
    have hd : decodeT32 (w.extractLsb' 16 16) (w.extractLsb' 0 16) = .ok i := h
    cases order <;>
      simp only [bytesOfWord, bytesOfHalf, decodeBytes, halfOfBytes, half_of_bytes, List.cons_append,
        List.nil_append, isWideT32_of_decodeT32_ok hd, hd, if_true]

theorem decodeBytes_encodeBytes {i : Instr} (order : ByteOrder) (rest : List Byte) (h : i.wellFormed = true) :
    decodeBytes i.iset order (encodeBytes order i ++ rest) = .ok (i, rest) :=
  decodeBytes_bytesOfWord order rest (decodeWord_encode h)

theorem decodeBytes_a32_little (b0 b1 b2 b3 : Byte) :
    decodeBytes .a32 .little [b0, b1, b2, b3] = (decodeA32 (b3 ++ b2 ++ b1 ++ b0)).map fun i => (i, []) := by
  simp only [decodeBytes, wordOfBytes]
  cases decodeA32 (b3 ++ b2 ++ b1 ++ b0) <;> rfl

theorem decodeBytes_t32_little {b0 b1 b2 b3 : Byte} {i : Instr} (h : decodeT32 (b1 ++ b0) (b3 ++ b2) = .ok i) :
    decodeBytes .t32 .little [b0, b1, b2, b3] = .ok (i, []) := by
  simp only [decodeBytes, halfOfBytes, isWideT32_of_decodeT32_ok h, h, if_true]

end Sys2Proof
end

section
/-! A step on four bytes that stand from `pc` on (20_memory.md R62; 40_vmov_imm_operation.md R121). -/

namespace Sys2Proof.Machine

/-- The four bytes from `pc` on, addresses modulo 2^32 (log 11). -/
structure BytesAt (m : Memory) (pc : Word) (b0 b1 b2 b3 : Byte) : Prop where
  byte0 : m.read pc.toNat = some b0
  byte1 : m.read (pc + 1#32).toNat = some b1
  byte2 : m.read (pc + 2#32).toNat = some b2
  byte3 : m.read (pc + 3#32).toNat = some b3

theorem fetch_a32_of_bytesAt {s : State} {b0 b1 b2 b3 : Byte} (hm : BytesAt s.mem s.pc b0 b1 b2 b3)
    (hi : s.iset = .a32) : fetch s = .ok [b0, b1, b2, b3] := by
  obtain ⟨four, _⟩ := fetchBytes_four hm.byte0 hm.byte1 hm.byte2 hm.byte3
  simp only [fetch, hi, four]

theorem fetch_t32_of_bytesAt {s : State} {b0 b1 b2 b3 : Byte} (hm : BytesAt s.mem s.pc b0 b1 b2 b3)
    (hi : s.iset = .t32) (hw : isWideT32 (halfOfBytes s.config.fetchByteOrder b0 b1) = true) :
    fetch s = .ok [b0, b1, b2, b3] := by
  obtain ⟨four, two⟩ := fetchBytes_four hm.byte0 hm.byte1 hm.byte2 hm.byte3
  simp only [fetch, hi, two, lengthT32, hw, if_true, four]

theorem step_of_decode_ok {s : State} {bytes rest : List Byte} {i : Instr} (ha : pcAligned s.iset s.pc = true)
    (hf : fetch s = .ok bytes) (hd : decodeBytes s.iset s.config.fetchByteOrder bytes = .ok (i, rest)) :
    step s = exec i s := by
  simp only [step, ha, hf, hd, if_true]

/-- Bytes that decode are fetched whole: in T32 state their first halfword is that of a 32-bit instruction. -/
theorem step_of_bytesAt {s : State} {b0 b1 b2 b3 : Byte} {i : Instr} (ha : pcAligned s.iset s.pc = true)
    (hm : BytesAt s.mem s.pc b0 b1 b2 b3)
    (hd : decodeBytes s.iset s.config.fetchByteOrder [b0, b1, b2, b3] = .ok (i, [])) : step s = exec i s := by
  refine step_of_decode_ok ha ?fetched hd
  cases hi : s.iset with
  | a32 => exact fetch_a32_of_bytesAt hm hi
  | t32 => exact fetch_t32_of_bytesAt hm hi (isWideT32_of_decodeBytes_ok (hi ▸ hd))

/-- Settles O9: the bytes decode to the instruction, by the round trip of the encoder or by the byte order of the fetch,
and a step on bytes that decode is `step_of_bytesAt`. -/
theorem instructionInMemoryIsExecuted : Obligations.InstructionInMemoryIsExecuted := by
  intro s i b0 b1 b2 b3 ha h0 h1 h2 h3
  have hm : BytesAt s.mem s.pc b0 b1 b2 b3 := ⟨h0, h1, h2, h3⟩
  refine ⟨fun hwf hset hbytes => ?encoded, fun horder => ?little⟩
  case encoded =>
    refine step_of_bytesAt ha hm ?_
    rw [← hset, ← hbytes, ← List.append_nil (encodeBytes _ _)]
    exact decodeBytes_encodeBytes _ [] hwf
  case little =>
    have a32 : s.iset = .a32 → ∀ j, decodeA32 (b3 ++ b2 ++ b1 ++ b0) = .ok j → step s = exec j s := fun hi j hj =>
      step_of_bytesAt ha hm (by rw [hi, horder, decodeBytes_a32_little, hj]; rfl)
    have t32 : s.iset = .t32 → ∀ j, decodeT32 (b1 ++ b0) (b3 ++ b2) = .ok j → step s = exec j s := fun hi j hj =>
      step_of_bytesAt ha hm (by rw [hi, horder, decodeBytes_t32_little hj])
    refine ⟨fun hi => a32 hi i, fun hi r hr => ?rejected, fun hi => t32 hi i, fun hi hb => ?sampleA32,
      fun hi hb => ?sampleT32⟩
    case rejected =>
      refine step_of_decode_error ha (fetch_a32_of_bytesAt hm hi) ?_
      rw [hi, horder, decodeBytes_a32_little, hr]
      rfl
    case sampleA32 =>
      cases hb
      exact a32 hi _ (by decide)
    case sampleT32 =>
      cases hb
      exact t32 hi _ (by decide)

end Sys2Proof.Machine
end

section
/-! Which words the decoder accepts, and as what: the fixed bits as masks, the two `SEE` clauses, and the way back from
an accepted word to the encoder (30_encoding.md R76 to R79, R91 to R94). -/

namespace Sys2Proof

/-- Settles O1, by the round trip of bytes. -/
theorem decodeOfEncodeIsTheInstruction : Obligations.DecodeOfEncodeIsTheInstruction :=
  fun _ order rest h => decodeBytes_encodeBytes order rest h

/-! ### A field that is fixed, as a mask and a match -/

/-- The mask of the `n` bits from bit `a` on. -/
def fieldMask (a n : Nat) : Word := (BitVec.allOnes n).setWidth 32 <<< a

theorem extractLsb'_eq_iff_mask {a n : Nat} (w : Word) (v : BitVec n) (h : a + n ≤ 32) :
    w.extractLsb' a n = v ↔ w &&& fieldMask a n = v.setWidth 32 <<< a := by
  constructor
  · rintro rfl
    ext i hi
    simp [fieldMask]
    grind
  · intro hm
    ext i hi
    have bit : (w &&& fieldMask a n).getLsbD (a + i) = (v.setWidth 32 <<< a).getLsbD (a + i) := by rw [hm]
    simpa [fieldMask, hi, show a + i < 32 by omega, show i < 32 by omega] using bit

/-- Part of a match is what part of the mask selects. -/
theorem and_eq_of_and_eq {w m v : Word} (p : Word) (h : w &&& m = v) : w &&& (m &&& p) = v &&& p := by
  rw [← h, BitVec.and_assoc]

/-- Two fixed fields are tested together; the side conditions say that neither match has a bit of the other's mask. -/
theorem fixed_and_fixed_iff {w m m' v v' : Word} (hm : (v ||| v') &&& m = v) (hm' : (v ||| v') &&& m' = v') :
    (w &&& m = v ∧ w &&& m' = v') ↔ w &&& (m ||| m') = v ||| v' := by
  constructor
  · rintro ⟨h, h'⟩
    rw [BitVec.and_or_distrib_left, h, h']
  · intro h
    have left : (m ||| m') &&& m = m := by ext i; simp +contextual
    have right : (m ||| m') &&& m' = m' := by ext i; simp +contextual
    exact ⟨by simpa only [left, hm] using and_eq_of_and_eq m h,
      by simpa only [right, hm'] using and_eq_of_and_eq m' h⟩


/-! ### The four formats (30_encoding.md R76 to R79): fixed bits, and the word as its fields -/

theorem simdFieldsA32_iff_mask (w : Word) :
    (w.extractLsb' 25 7 = 0b1111001#7 ∧ w.extractLsb' 23 1 = 0b1#1 ∧ w.extractLsb' 19 3 = 0b000#3 ∧
      w.extractLsb' 7 1 = 0b0#1 ∧ w.extractLsb' 4 1 = 0b1#1) ↔ w &&& 0xFEB80090#32 = 0xF2800010#32 := by
  simp (disch := decide) only [extractLsb'_eq_iff_mask, fixed_and_fixed_iff]
  rfl

theorem fpFieldsA32_iff_mask (w : Word) :
    (w.extractLsb' 28 4 ≠ 0b1111#4 ∧ w.extractLsb' 23 5 = 0b11101#5 ∧ w.extractLsb' 20 2 = 0b11#2 ∧
      w.extractLsb' 10 2 = 0b10#2 ∧ w.extractLsb' 6 1 = 0b0#1 ∧ w.extractLsb' 4 1 = 0b0#1) ↔
      w &&& 0x0FB00C50#32 = 0x0EB00800#32 ∧ w &&& 0xF0000000#32 ≠ 0xF0000000#32 := by
  rw [and_comm]
  simp (disch := decide) only [extractLsb'_eq_iff_mask, fixed_and_fixed_iff, ne_eq]
  rfl

theorem simdFieldsT32_iff_mask (w : Word) :
    ((w.extractLsb' 16 16).extractLsb' 13 3 = 0b111#3 ∧ (w.extractLsb' 16 16).extractLsb' 7 5 = 0b11111#5 ∧
      (w.extractLsb' 16 16).extractLsb' 3 3 = 0b000#3 ∧ (w.extractLsb' 0 16).extractLsb' 7 1 = 0b0#1 ∧
      (w.extractLsb' 0 16).extractLsb' 4 1 = 0b1#1) ↔ w &&& 0xEFB80090#32 = 0xEF800010#32 := by
  simp (disch := decide) only [extractLsb'_extractLsb', extractLsb'_eq_iff_mask, fixed_and_fixed_iff]
  rfl

theorem fpFieldsT32_iff_mask (w : Word) :
    ((w.extractLsb' 16 16).extractLsb' 7 9 = 0b111011101#9 ∧ (w.extractLsb' 16 16).extractLsb' 4 2 = 0b11#2 ∧
      (w.extractLsb' 0 16).extractLsb' 10 2 = 0b10#2 ∧ (w.extractLsb' 0 16).extractLsb' 6 1 = 0b0#1 ∧
      (w.extractLsb' 0 16).extractLsb' 4 1 = 0b0#1) ↔ w &&& 0xFFB00C50#32 = 0xEEB00800#32 := by
  simp (disch := decide) only [extractLsb'_extractLsb', extractLsb'_eq_iff_mask, fixed_and_fixed_iff]
  rfl

/-- An A32 Advanced SIMD word as the fields of R76, the highest first. -/
theorem word_of_simdFieldsA32 (w : Word) :
    w.extractLsb' 25 7 ++ w.extractLsb' 24 1 ++ w.extractLsb' 23 1 ++ w.extractLsb' 22 1 ++ w.extractLsb' 19 3
      ++ w.extractLsb' 16 3 ++ w.extractLsb' 12 4 ++ w.extractLsb' 8 4 ++ w.extractLsb' 7 1 ++ w.extractLsb' 6 1
      ++ w.extractLsb' 5 1 ++ w.extractLsb' 4 1 ++ w.extractLsb' 0 4 = w := by
  simp (disch := rfl) only [BitVec.extractLsb'_append_extractLsb'_eq_extractLsb']
  exact BitVec.extractLsb'_eq_self

theorem word_of_simdFieldsT32 (w : Word) :
    w.extractLsb' 29 3 ++ w.extractLsb' 28 1 ++ w.extractLsb' 23 5 ++ w.extractLsb' 22 1 ++ w.extractLsb' 19 3
      ++ w.extractLsb' 16 3 ++ w.extractLsb' 12 4 ++ w.extractLsb' 8 4 ++ w.extractLsb' 7 1 ++ w.extractLsb' 6 1
      ++ w.extractLsb' 5 1 ++ w.extractLsb' 4 1 ++ w.extractLsb' 0 4 = w := by
  simp (disch := rfl) only [BitVec.extractLsb'_append_extractLsb'_eq_extractLsb']
  exact BitVec.extractLsb'_eq_self

theorem word_of_fpFields (w : Word) :
    w.extractLsb' 28 4 ++ w.extractLsb' 23 5 ++ w.extractLsb' 22 1 ++ w.extractLsb' 20 2 ++ w.extractLsb' 16 4
      ++ w.extractLsb' 12 4 ++ w.extractLsb' 10 2 ++ w.extractLsb' 8 2 ++ w.extractLsb' 7 1 ++ w.extractLsb' 6 1
      ++ w.extractLsb' 5 1 ++ w.extractLsb' 4 1 ++ w.extractLsb' 0 4 = w := by
  simp (disch := rfl) only [BitVec.extractLsb'_append_extractLsb'_eq_extractLsb']
  exact BitVec.extractLsb'_eq_self

theorem exists_encodeSimdA32 {w : Word} (h : w &&& 0xFEB80090#32 = 0xF2800010#32) :
    ∃ op cmode q d imm8, encodeSimdA32 op cmode q d imm8 = w := by
  obtain ⟨h25, h23, h19, h7, h4⟩ := (simdFieldsA32_iff_mask w).2 h
  have fields := word_of_simdFieldsA32 w
  rw [h25, h23, h19, h7, h4] at fields
  refine ⟨w.extractLsb' 5 1, w.extractLsb' 8 4, w.extractLsb' 6 1, w.extractLsb' 22 1 ++ w.extractLsb' 12 4,
    w.extractLsb' 24 1 ++ w.extractLsb' 16 3 ++ w.extractLsb' 0 4, ?_⟩
  simpa (disch := decide) only [encodeSimdA32, BitVec.extractLsb'_append_eq_of_add_le,
    BitVec.extractLsb'_append_eq_of_le, extractLsb'_extractLsb'] using fields

theorem exists_encodeSimdT32 {w : Word} (h : w &&& 0xEFB80090#32 = 0xEF800010#32) :
    ∃ op cmode q d imm8, encodeSimdT32 op cmode q d imm8 = w := by
  obtain ⟨h29, h23, h19, h7, h4⟩ := (simdFieldsT32_iff_mask w).2 h
  simp (disch := decide) only [extractLsb'_extractLsb'] at h29 h23 h19 h7 h4
  have fields := word_of_simdFieldsT32 w
  rw [h29, h23, h19, h7, h4] at fields
  refine ⟨w.extractLsb' 5 1, w.extractLsb' 8 4, w.extractLsb' 6 1, w.extractLsb' 22 1 ++ w.extractLsb' 12 4,
    w.extractLsb' 28 1 ++ w.extractLsb' 16 3 ++ w.extractLsb' 0 4, ?_⟩
  simpa (disch := decide) only [encodeSimdT32, BitVec.extractLsb'_append_eq_of_add_le,
    BitVec.extractLsb'_append_eq_of_le, extractLsb'_extractLsb'] using fields

theorem exists_encodeFpA32 {w : Word}
    (h : w &&& 0x0FB00C50#32 = 0x0EB00800#32 ∧ w &&& 0xF0000000#32 ≠ 0xF0000000#32) :
    ∃ cond size dBit vd imm8 sbz, cond ≠ 0b1111#4 ∧ encodeFpA32 cond size dBit vd imm8 sbz = w := by
  obtain ⟨hcond, h23, h20, h10, h6, h4⟩ := (fpFieldsA32_iff_mask w).2 h
  have fields := word_of_fpFields w
  rw [h23, h20, h10, h6, h4] at fields
  refine ⟨w.extractLsb' 28 4, w.extractLsb' 8 2, w.extractLsb' 22 1, w.extractLsb' 12 4,
    w.extractLsb' 16 4 ++ w.extractLsb' 0 4, w.extractLsb' 7 1 ++ w.extractLsb' 5 1, hcond, ?_⟩
  simpa (disch := decide) only [encodeFpA32, BitVec.extractLsb'_append_eq_of_add_le,
    BitVec.extractLsb'_append_eq_of_le, extractLsb'_extractLsb'] using fields

/-- The words of T2 are those of A2 with `cond` 1110 (30_encoding.md R79). -/
theorem encodeFpA32_always (size : BitVec 2) (dBit : BitVec 1) (vd : BitVec 4) (imm8 : BitVec 8) (sbz : BitVec 2) :
    encodeFpA32 0b1110#4 size dBit vd imm8 sbz = encodeFpT32 size dBit vd imm8 sbz := rfl

theorem encodeFpA32_cond (cond : BitVec 4) (size : BitVec 2) (dBit : BitVec 1) (vd : BitVec 4) (imm8 : BitVec 8)
    (sbz : BitVec 2) : (encodeFpA32 cond size dBit vd imm8 sbz).extractLsb' 28 4 = cond := by
  simp (disch := decide) only [encodeFpA32, BitVec.extractLsb'_append_eq_of_le]
  exact BitVec.extractLsb'_eq_self

theorem exists_encodeFpT32 {w : Word} (h : w &&& 0xFFB00C50#32 = 0xEEB00800#32) :
    ∃ size dBit vd imm8 sbz, encodeFpT32 size dBit vd imm8 sbz = w := by
  have cond_mask : w &&& 0xF0000000#32 = 0xE0000000#32 := and_eq_of_and_eq 0xF0000000#32 h
  have fp_mask : w &&& 0x0FB00C50#32 = 0x0EB00800#32 := and_eq_of_and_eq 0x0FB00C50#32 h
  obtain ⟨cond, size, dBit, vd, imm8, sbz, _, rfl⟩ := exists_encodeFpA32 ⟨fp_mask, by rw [cond_mask]; decide⟩
  have always : cond = 0b1110#4 := by
    rw [← encodeFpA32_cond cond size dBit vd imm8 sbz, extractLsb'_eq_iff_mask _ _ (by decide)]
    exact cond_mask
  subst always
  exact ⟨size, dBit, vd, imm8, sbz, encodeFpA32_always ..⟩

/-! ### The two `SEE` clauses -/

/-- The clause of 30_encoding.md R93. -/
def SeeVorr (op : BitVec 1) (cmode : BitVec 4) : Prop :=
  op = 0b0#1 ∧ cmode.extractLsb' 0 1 = 0b1#1 ∧ cmode.extractLsb' 2 2 ≠ 0b11#2

/-- The clause of 30_encoding.md R94. -/
def SeeRelated (op : BitVec 1) (cmode : BitVec 4) : Prop := op = 0b1#1 ∧ cmode ≠ 0b1110#4

/-- The encoder of the Advanced SIMD formats of an instruction set (30_encoding.md R76, R77). -/
def encodeSimd (t : ISet) (op : BitVec 1) (cmode : BitVec 4) (q : BitVec 1) (d : BitVec 5) (imm8 : BitVec 8) : Word :=
  match t with
  | .a32 => encodeSimdA32 op cmode q d imm8
  | .t32 => encodeSimdT32 op cmode q d imm8

theorem decodeWord_encodeSimd (t : ISet) (op : BitVec 1) (cmode : BitVec 4) (q : BitVec 1) (d : BitVec 5)
    (imm8 : BitVec 8) : decodeWord t (encodeSimd t op cmode q d imm8) = decodeSimdFields t op cmode q d imm8 := by
  cases t with
  | a32 => exact decodeA32_encodeSimdA32 ..
  | t32 => exact decodeWord_encodeSimdT32 ..

/-- Without the VORR clause `cmode` is 0xx0, 10x0, 110x, 1110 or 1111 where `op` is 0 (30_encoding.md R81). -/
theorem cmode_of_not_seeVorr : ∀ cmode : BitVec 4,
    ¬ (cmode.extractLsb' 0 1 = 0b1#1 ∧ cmode.extractLsb' 2 2 ≠ 0b11#2) →
    (∃ c : BitVec 2, cmode = 0b0#1 ++ c ++ 0b0#1) ∨ (∃ c : BitVec 1, cmode = 0b10#2 ++ c ++ 0b0#1) ∨
      (∃ c : BitVec 1, cmode = 0b110#3 ++ c) ∨ cmode = 0b1110#4 ∨ cmode = 0b1111#4 := by decide

/-- The instruction `i` of the set `t` has the Advanced SIMD word with these fields. -/
def HasSimdWord (t : ISet) (op : BitVec 1) (cmode : BitVec 4) (q : BitVec 1) (d : BitVec 5) (imm8 : BitVec 8)
    (i : Instr) : Prop :=
  i.wellFormed = true ∧ i.iset = t ∧ encode i = encodeSimd t op cmode q d imm8

/-- The 64-bit variant has Q 0, the 128-bit one Q 1. -/
theorem hasSimdWord_variants {t : ISet} {op : BitVec 1} {cmode : BitVec 4} {d : BitVec 5} {imm8 : BitVec 8}
    (iD iQ : Instr) (hD : HasSimdWord t op cmode 0b0#1 d imm8 iD) (hQ : HasSimdWord t op cmode 0b1#1 d imm8 iQ)
    (q : BitVec 1) : ∃ i, HasSimdWord t op cmode q d imm8 i := by
  rcases BitVec.eq_zero_or_eq_one q with rfl | rfl
  · exact ⟨iD, hD⟩
  · exact ⟨iQ, hQ⟩

/-- Where no clause fires, `op`, `cmode` and `Q` are those of an instruction. -/
theorem exists_hasSimdWord (t : ISet) {op : BitVec 1} {cmode : BitVec 4} (q : BitVec 1) (d : BitVec 5)
    (imm8 : BitVec 8) (hv : ¬ SeeVorr op cmode) (hr : ¬ SeeRelated op cmode) :
    ∃ i, HasSimdWord t op cmode q d imm8 i := by
  rcases BitVec.eq_zero_or_eq_one op with rfl | rfl
  · rcases cmode_of_not_seeVorr cmode (fun h => hv ⟨rfl, h⟩) with ⟨c, rfl⟩ | ⟨c, rfl⟩ | ⟨c, rfl⟩ | rfl | rfl
    · cases t with
      | a32 =>
        exact hasSimdWord_variants (.a1I32D c d imm8) (.a1I32Q c d imm8) ⟨rfl, rfl, rfl⟩ ⟨rfl, rfl, rfl⟩ q
      | t32 =>
        exact hasSimdWord_variants (.t1I32D c d imm8) (.t1I32Q c d imm8) ⟨rfl, rfl, rfl⟩ ⟨rfl, rfl, rfl⟩ q
    · cases t with
      | a32 =>
        exact hasSimdWord_variants (.a3I16D c d imm8) (.a3I16Q c d imm8) ⟨rfl, rfl, rfl⟩ ⟨rfl, rfl, rfl⟩ q
      | t32 =>
        exact hasSimdWord_variants (.t3I16D c d imm8) (.t3I16Q c d imm8) ⟨rfl, rfl, rfl⟩ ⟨rfl, rfl, rfl⟩ q
    · cases t with
      | a32 =>
        exact hasSimdWord_variants (.a4I32D c d imm8) (.a4I32Q c d imm8) ⟨rfl, rfl, rfl⟩ ⟨rfl, rfl, rfl⟩ q
      | t32 =>
        exact hasSimdWord_variants (.t4I32D c d imm8) (.t4I32Q c d imm8) ⟨rfl, rfl, rfl⟩ ⟨rfl, rfl, rfl⟩ q
    · cases t with
      | a32 =>
        exact hasSimdWord_variants (.a4I8D d imm8) (.a4I8Q d imm8) ⟨rfl, rfl, rfl⟩ ⟨rfl, rfl, rfl⟩ q
      | t32 =>
        exact hasSimdWord_variants (.t4I8D d imm8) (.t4I8Q d imm8) ⟨rfl, rfl, rfl⟩ ⟨rfl, rfl, rfl⟩ q
    · cases t with
      | a32 =>
        exact hasSimdWord_variants (.a4F32D d imm8) (.a4F32Q d imm8) ⟨rfl, rfl, rfl⟩ ⟨rfl, rfl, rfl⟩ q
      | t32 =>
        exact hasSimdWord_variants (.t4F32D d imm8) (.t4F32Q d imm8) ⟨rfl, rfl, rfl⟩ ⟨rfl, rfl, rfl⟩ q
  · obtain rfl : cmode = 0b1110#4 := Classical.not_not.1 fun h => hr ⟨rfl, h⟩
    cases t with
    | a32 =>
      exact hasSimdWord_variants (.a5I64D d imm8) (.a5I64Q d imm8) ⟨rfl, rfl, rfl⟩ ⟨rfl, rfl, rfl⟩ q
    | t32 =>
      exact hasSimdWord_variants (.t5I64D d imm8) (.t5I64Q d imm8) ⟨rfl, rfl, rfl⟩ ⟨rfl, rfl, rfl⟩ q

theorem decodeSimdFields_of_seeVorr {t : ISet} {op : BitVec 1} {cmode : BitVec 4} {q : BitVec 1} {d : BitVec 5}
    {imm8 : BitVec 8} (h : SeeVorr op cmode) : decodeSimdFields t op cmode q d imm8 = .error .seeVorrImmediate :=
  if_pos h

theorem decodeSimdFields_of_seeRelated {t : ISet} {op : BitVec 1} {cmode : BitVec 4} {q : BitVec 1} {d : BitVec 5}
    {imm8 : BitVec 8} (h : SeeRelated op cmode) :
    decodeSimdFields t op cmode q d imm8 = .error .seeRelatedEncodings := by
  obtain ⟨rfl, hc⟩ := h
  simp [decodeSimdFields, hc]

theorem decodeSimdFields_of_not_see (t : ISet) {op : BitVec 1} {cmode : BitVec 4} (q : BitVec 1) (d : BitVec 5)
    (imm8 : BitVec 8) (hv : ¬ SeeVorr op cmode) (hr : ¬ SeeRelated op cmode) :
    ∃ i, decodeSimdFields t op cmode q d imm8 = .ok i ∧ HasSimdWord t op cmode q d imm8 i := by
  obtain ⟨i, hwf, hset, henc⟩ := exists_hasSimdWord t q d imm8 hv hr
  refine ⟨i, ?_, hwf, hset, henc⟩
  rw [← decodeWord_encodeSimd, ← henc, ← hset]
  exact decodeWord_encode hwf

/-- Which of its three answers the decode text of an Advanced SIMD word gives. -/
theorem decodeSimdFields_iff (t : ISet) (op : BitVec 1) (cmode : BitVec 4) (q : BitVec 1) (d : BitVec 5)
    (imm8 : BitVec 8) :
    (decodeSimdFields t op cmode q d imm8 = .error .seeVorrImmediate ↔ SeeVorr op cmode) ∧
      (decodeSimdFields t op cmode q d imm8 = .error .seeRelatedEncodings ↔ SeeRelated op cmode) ∧
      ((∃ i, decodeSimdFields t op cmode q d imm8 = .ok i) ↔ ¬ SeeVorr op cmode ∧ ¬ SeeRelated op cmode) := by
  by_cases hv : SeeVorr op cmode
  · have hr : ¬ SeeRelated op cmode := fun h => absurd (hv.1.symm.trans h.1) (by decide)
    simp [decodeSimdFields_of_seeVorr hv, hv, hr]
  · by_cases hr : SeeRelated op cmode
    · simp [decodeSimdFields_of_seeRelated hr, hv, hr]
    · obtain ⟨i, hi, _⟩ := decodeSimdFields_of_not_see t q d imm8 hv hr
      simp [hi, hv, hr]

theorem seeVorr_iff_mem : ∀ (op : BitVec 1) (cmode : BitVec 4), SeeVorr op cmode ↔
    op = 0b0#1 ∧ cmode ∈ [0b0001#4, 0b0011#4, 0b0101#4, 0b0111#4, 0b1001#4, 0b1011#4] := by
  unfold SeeVorr
  decide

/-- The eleven pairs of 30_encoding.md R81. -/
theorem not_see_iff_mem : ∀ (op : BitVec 1) (cmode : BitVec 4), (¬ SeeVorr op cmode ∧ ¬ SeeRelated op cmode) ↔
    (op = 0b0#1 ∧ cmode ∈ [0b0000#4, 0b0010#4, 0b0100#4, 0b0110#4, 0b1000#4, 0b1010#4, 0b1100#4, 0b1101#4, 0b1110#4,
      0b1111#4]) ∨ (op = 0b1#1 ∧ cmode = 0b1110#4) := by
  unfold SeeVorr SeeRelated
  decide

/-- Settles O5: the last four clauses each contradict one part of `SeeVorr`. -/
theorem vorrClauseRedirectsSixCmodes : Obligations.VorrClauseRedirectsSixCmodes := by
  intro t op cmode q d imm8
  obtain ⟨vorr, _, _⟩ := decodeSimdFields_iff t op cmode q d imm8
  refine ⟨vorr, seeVorr_iff_mem op cmode, fun _ even h => ?a1, fun _ even h => ?a3, fun top h => h.2.2 top,
    fun hop h => ?a5⟩
  case a1 | a3 => exact absurd (even.symm.trans h.2.1) (by decide)
  case a5 => exact absurd (hop.symm.trans h.1) (by decide)

/-- Settles O4: the answers of the decode text on the fields, which are the operands of either encoder. -/
theorem seeClausesChooseWhatIsNotVmov : Obligations.SeeClausesChooseWhatIsNotVmov := by
  intro op cmode q d imm8
  have answers : ∀ t : ISet, _ := fun t => decodeSimdFields_iff t op cmode q d imm8
  simp only [← decodeWord_encodeSimd] at answers
  obtain ⟨vorrA, relatedA, okA⟩ := answers .a32
  obtain ⟨vorrT, relatedT, okT⟩ := answers .t32
  exact ⟨vorrA.trans (seeVorr_iff_mem op cmode), vorrT.trans (seeVorr_iff_mem op cmode), relatedA, relatedT,
    okA.trans (not_see_iff_mem op cmode), okT.trans (not_see_iff_mem op cmode)⟩

/-! ### From an accepted word back to the encoder (30_encoding.md R91, R92) -/

@[simp] theorem regNumberD_dBit (dBit : BitVec 1) (vd : BitVec 4) : (regNumberD dBit vd).extractLsb' 4 1 = dBit :=
  BitVec.extractLsb'_append_eq_left

@[simp] theorem regNumberD_vd (dBit : BitVec 1) (vd : BitVec 4) : (regNumberD dBit vd).extractLsb' 0 4 = vd :=
  BitVec.extractLsb'_append_eq_right

@[simp] theorem regNumberS_dBit (dBit : BitVec 1) (vd : BitVec 4) : (regNumberS dBit vd).extractLsb' 0 1 = dBit :=
  BitVec.extractLsb'_append_eq_right

@[simp] theorem regNumberS_vd (dBit : BitVec 1) (vd : BitVec 4) : (regNumberS dBit vd).extractLsb' 1 4 = vd :=
  BitVec.extractLsb'_append_eq_left

theorem encode_decodeA2Fields {cond : BitVec 4} (hc : cond ≠ 0b1111#4) (dBit : BitVec 1) (vd : BitVec 4)
    (imm8 : BitVec 8) (size sbz : BitVec 2) :
    (decodeA2Fields cond dBit vd imm8 size sbz).wellFormed = true ∧
      (decodeA2Fields cond dBit vd imm8 size sbz).iset = .a32 ∧
      encode (decodeA2Fields cond dBit vd imm8 size sbz) = encodeFpA32 cond size dBit vd imm8 sbz := by
  rcases bitVec2_cases size with rfl | rfl | rfl | rfl <;>
    simp [decodeA2Fields, Instr.wellFormed, Instr.iset, encode, hc]

theorem encode_decodeT2Fields (dBit : BitVec 1) (vd : BitVec 4) (imm8 : BitVec 8) (size sbz : BitVec 2) :
    (decodeT2Fields dBit vd imm8 size sbz).wellFormed = true ∧
      (decodeT2Fields dBit vd imm8 size sbz).iset = .t32 ∧
      encode (decodeT2Fields dBit vd imm8 size sbz) = encodeFpT32 size dBit vd imm8 sbz := by
  rcases bitVec2_cases size with rfl | rfl | rfl | rfl <;>
    simp [decodeT2Fields, Instr.wellFormed, Instr.iset, encode]

theorem hasSimdWord_of_decodeSimdFields {t : ISet} {op : BitVec 1} {cmode : BitVec 4} {q : BitVec 1} {d : BitVec 5}
    {imm8 : BitVec 8} {i : Instr} (h : decodeSimdFields t op cmode q d imm8 = .ok i) :
    HasSimdWord t op cmode q d imm8 i := by
  obtain ⟨_, _, ok⟩ := decodeSimdFields_iff t op cmode q d imm8
  obtain ⟨hv, hr⟩ := ok.1 ⟨i, h⟩
  obtain ⟨j, hj, hword⟩ := decodeSimdFields_of_not_see t q d imm8 hv hr
  obtain rfl : j = i := Except.ok.inj (hj.symm.trans h)
  exact hword

theorem decodeSimdFields_ne_noPattern (t : ISet) (op : BitVec 1) (cmode : BitVec 4) (q : BitVec 1) (d : BitVec 5)
    (imm8 : BitVec 8) : decodeSimdFields t op cmode q d imm8 ≠ .error .noPattern := by
  by_cases hv : SeeVorr op cmode
  · simp [decodeSimdFields_of_seeVorr hv]
  · by_cases hr : SeeRelated op cmode
    · simp [decodeSimdFields_of_seeRelated hr]
    · obtain ⟨i, hi, _⟩ := decodeSimdFields_of_not_see t q d imm8 hv hr
      simp [hi]

theorem decodeA32_noPattern_iff (w : Word) : decodeWord .a32 w = .error .noPattern ↔
    w &&& 0xFEB80090#32 ≠ 0xF2800010#32 ∧
      ¬ (w &&& 0x0FB00C50#32 = 0x0EB00800#32 ∧ w &&& 0xF0000000#32 ≠ 0xF0000000#32) := by
  simp only [decodeWord, decodeA32, simdFieldsA32_iff_mask, fpFieldsA32_iff_mask]
  split
  · next simd => simp [simd, decodeSimdFields_ne_noPattern]
  · split
    · next fp => simp [fp]
    · next simd fp => exact iff_of_true rfl ⟨simd, fp⟩

theorem decodeT32_noPattern_iff (w : Word) : decodeWord .t32 w = .error .noPattern ↔
    w &&& 0xEFB80090#32 ≠ 0xEF800010#32 ∧ w &&& 0xFFB00C50#32 ≠ 0xEEB00800#32 := by
  simp only [decodeWord, decodeT32, simdFieldsT32_iff_mask, fpFieldsT32_iff_mask]
  split
  · next simd => simp [simd, decodeSimdFields_ne_noPattern]
  · split
    · next fp => simp [fp]
    · next simd fp => exact iff_of_true rfl ⟨simd, fp⟩

/-- Settles O3, for each instruction set. -/
theorem wordsOutsideTheMasksMatchNoPattern : Obligations.WordsOutsideTheMasksMatchNoPattern := fun w =>
  ⟨decodeA32_noPattern_iff w, decodeT32_noPattern_iff w⟩

/-- An A32 word that matches a pattern is the encoder's word of what it decodes to. -/
theorem encode_of_decodeA32 {w : Word} {i : Instr} (h : decodeWord .a32 w = .ok i) :
    i.wellFormed = true ∧ i.iset = .a32 ∧ encode i = w := by
  by_cases simd : w &&& 0xFEB80090#32 = 0xF2800010#32
  · obtain ⟨op, cmode, q, d, imm8, rfl⟩ := exists_encodeSimdA32 simd
    exact hasSimdWord_of_decodeSimdFields ((decodeA32_encodeSimdA32 ..).symm.trans h)
  · by_cases fp : w &&& 0x0FB00C50#32 = 0x0EB00800#32 ∧ w &&& 0xF0000000#32 ≠ 0xF0000000#32
    · obtain ⟨cond, size, dBit, vd, imm8, sbz, hc, rfl⟩ := exists_encodeFpA32 fp
      cases (decodeA32_encodeFpA32 hc ..).symm.trans h
      exact encode_decodeA2Fields hc ..
    · cases ((decodeA32_noPattern_iff w).2 ⟨simd, fp⟩).symm.trans h

/-- A T32 pair that matches a pattern is the encoder's pair of what it decodes to. -/
theorem encode_of_decodeT32 {w : Word} {i : Instr} (h : decodeWord .t32 w = .ok i) :
    i.wellFormed = true ∧ i.iset = .t32 ∧ encode i = w := by
  by_cases simd : w &&& 0xEFB80090#32 = 0xEF800010#32
  · obtain ⟨op, cmode, q, d, imm8, rfl⟩ := exists_encodeSimdT32 simd
    exact hasSimdWord_of_decodeSimdFields ((decodeWord_encodeSimdT32 ..).symm.trans h)
  · by_cases fp : w &&& 0xFFB00C50#32 = 0xEEB00800#32
    · obtain ⟨size, dBit, vd, imm8, sbz, rfl⟩ := exists_encodeFpT32 fp
      cases (decodeWord_encodeFpT32 ..).symm.trans h
      exact encode_decodeT2Fields ..
    · cases ((decodeT32_noPattern_iff w).2 ⟨simd, fp⟩).symm.trans h

/-- Settles O2, for each instruction set. -/
theorem decodedWordIsTheEncodersWord : Obligations.DecodedWordIsTheEncodersWord := by
  intro t w i h
  cases t with
  | a32 => exact encode_of_decodeA32 h
  | t32 => exact encode_of_decodeT32 h

/-- The `cond` field of the word of an A2 instruction is its condition, which is not 1111. -/
theorem not_unconditional_of_encodeFpA32 {w : Word} {i : Instr} {cond : BitVec 4} {size : BitVec 2} {dBit : BitVec 1}
    {vd : BitVec 4} {imm8 : BitVec 8} {sbz : BitVec 2} (hw : w.extractLsb' 28 4 = 0b1111#4)
    (hwf : i.wellFormed = (cond != 0b1111#4)) (henc : encode i = encodeFpA32 cond size dBit vd imm8 sbz) :
    decodeWord .a32 w ≠ .ok i := by
  intro h
  obtain ⟨wf, _, rfl⟩ := encode_of_decodeA32 h
  rw [henc, encodeFpA32_cond] at hw
  exact bne_iff_ne.1 (hwf.symm.trans wf) hw

/-- Settles O6: an accepted word is the encoder's, and no well-formed A2 instruction has the condition 1111. -/
theorem unconditionalSpaceIsNeverA2 : Obligations.UnconditionalSpaceIsNeverA2 := fun _ _ _ _ _ hw =>
  ⟨not_unconditional_of_encodeFpA32 hw rfl rfl, not_unconditional_of_encodeFpA32 hw rfl rfl,
    not_unconditional_of_encodeFpA32 hw rfl rfl, not_unconditional_of_encodeFpA32 hw rfl rfl⟩

end Sys2Proof
end

section
/-! Where an instruction is UNDEFINED and where its should-be-zero bits stop it (30_encoding.md R95, R97;
60_exceptions.md R152): the verdict of the decode text, and what the operation answers on it once the condition passes. -/

namespace Sys2Proof.Machine

/-! ### The operation, once the should-be-zero bits are accepted and the condition passes -/

theorem operateSbz_of_accepted {s : State} {sbz : BitVec 2} (h : s.sbzAccepted sbz) (cond : BitVec 4) (v : Verdict) :
    operateSbz sbz cond v s = operate cond v s := by
  refine if_neg ?_
  rintro ⟨hz, hf⟩
  rcases h with h | h
  · exact hz h
  · rw [hf] at h
    cases h

theorem operateSbz_of_not_accepted {s : State} {sbz : BitVec 2} (hz : sbz ≠ 0#2) (hf : s.config.sbzPolicy = .fault)
    (cond : BitVec 4) (v : Verdict) : operateSbz sbz cond v s = .fault .unpredictable :=
  if_pos ⟨hz, hf⟩

theorem exec_of_sbzAccepted {i : Instr} {s : State} (h : s.sbzAccepted (sbzOf i)) :
    exec i s = operate (currentCond s i) (verdictOf s i) s := by
  rw [exec_eq_operateSbz, operateSbz_of_accepted h]

/-- Instructions with the same condition and the same verdict do the same where no should-be-zero bit stops them. -/
theorem exec_congr {i j : Instr} {s : State} (hi : s.sbzAccepted (sbzOf i)) (hj : s.sbzAccepted (sbzOf j))
    (hc : currentCond s i = currentCond s j) (hv : verdictOf s i = verdictOf s j) : exec i s = exec j s := by
  rw [exec_of_sbzAccepted hi, exec_of_sbzAccepted hj, hc, hv]

theorem operate_undefined {cond : BitVec 4} {s : State} (h : conditionPassed cond s.flags = true) :
    operate cond .undefined s = .fault .undefined :=
  if_pos h

theorem operate_ok {cond : BitVec 4} {s : State} (h : conditionPassed cond s.flags = true) (k : DecodeConstants) :
    operate cond (.ok k) s = execute k s :=
  if_pos h

theorem execute_undefined_iff {k : DecodeConstants} {s : State} :
    execute k s = .fault .undefined ↔ fpSimdAccess s.config s.ctl k.advsimd = .undefined := by
  unfold execute raise
  cases fpSimdAccess s.config s.ctl k.advsimd <;> simp

/-! ### The verdict of the decode text -/

theorem simdVerdict_undefined_iff {cfg : Config} {op q : BitVec 1} {cmode : BitVec 4} {d : BitVec 5} {imm8 : BitVec 8} :
    simdVerdict cfg op cmode q d imm8 = .undefined ↔ q = 0b1#1 ∧ d.extractLsb' 0 1 = 0b1#1 := by
  unfold simdVerdict
  split
  · next h => exact iff_of_true rfl h
  · next h => exact iff_of_false Verdict.noConfusion h

theorem simdVerdict_ne_unpredictable {cfg : Config} {op q : BitVec 1} {cmode : BitVec 4} {d : BitVec 5}
    {imm8 : BitVec 8} {k : DecodeConstants} : simdVerdict cfg op cmode q d imm8 ≠ .unpredictable k := by
  unfold simdVerdict
  split <;> exact Verdict.noConfusion

theorem fpVerdict_undefined_iff {size : BitVec 2} {d : BitVec 5} {imm8 : BitVec 8} {conditional : Bool} {s : State} :
    fpVerdict size d imm8 conditional s = .undefined ↔
      ¬ s.fpscrZero ∨ size = 0b00#2 ∨ (size = 0b01#2 ∧ s.config.haveFP16 = false) := by
  unfold fpVerdict State.fpscrZero
  split
  · next h => exact iff_of_true rfl (.inl (not_and_or.2 h))
  · next hz =>
    split
    · next h => exact iff_of_true rfl (.inr h)
    · next hsize =>
      refine iff_of_false ?_ (not_or.2 ⟨fun h => hz (not_and_or.1 h), hsize⟩)
      split <;> exact Verdict.noConfusion

theorem fpVerdict_unpredictable {size : BitVec 2} {d : BitVec 5} {imm8 : BitVec 8} {conditional : Bool} {s : State}
    {k : DecodeConstants} (h : fpVerdict size d imm8 conditional s = .unpredictable k) :
    size = 0b01#2 ∧ conditional = true := by
  unfold fpVerdict at h
  split at h
  · cases h
  · split at h
    · cases h
    · split at h
      · next hu => exact hu
      · cases h

/-- The UNDEFINED tests of the decode texts (30_encoding.md R95), without the enable check. -/
def TextUndefined (s : State) (i : Instr) : Prop :=
  namesOddQuadword i = true ∨ (advsimdOf i = false ∧ ¬ s.fpscrZero) ∨ sizeField i = some 0b00#2 ∨
    (sizeField i = some 0b01#2 ∧ s.config.haveFP16 = false)

theorem verdictOf_undefined_iff (s : State) (i : Instr) : verdictOf s i = .undefined ↔ TextUndefined s i := by
  cases i with
  | a1I32D | a3I16D | a4I32D | a4I8D | a4F32D | a5I64D | t1I32D | t3I16D | t4I32D | t4I8D | t4F32D | t5I64D
  | a1I32Q | a3I16Q | a4I32Q | a4I8Q | a4F32Q | a5I64Q | t1I32Q | t3I16Q | t4I32Q | t4I8Q | t4F32Q | t5I64Q =>
    simp [TextUndefined, verdictOf, simdVerdict_undefined_iff, namesOddQuadword, advsimdOf, sizeField]
  | a2F16 | a2F32 | a2F64 | a2Size00 | t2F16 | t2F32 | t2F64 | t2Size00 =>
    simp [TextUndefined, verdictOf, fpVerdict_undefined_iff, namesOddQuadword, advsimdOf, sizeField]

theorem conditionalHalf_of_verdictOf {s : State} {i : Instr} {k : DecodeConstants}
    (h : verdictOf s i = .unpredictable k) : conditionalHalf s i = true := by
  cases i with
  | a1I32D | a3I16D | a4I32D | a4I8D | a4F32D | a5I64D | t1I32D | t3I16D | t4I32D | t4I8D | t4F32D | t5I64D
  | a1I32Q | a3I16Q | a4I32Q | a4I8Q | a4F32Q | a5I64Q | t1I32Q | t3I16Q | t4I32Q | t4I8Q | t4F32Q | t5I64Q =>
    exact absurd h simdVerdict_ne_unpredictable
  | a2F16 | t2F16 => exact (fpVerdict_unpredictable h).2
  | a2F32 | a2F64 | a2Size00 | t2F32 | t2F64 | t2Size00 =>
    exact absurd (fpVerdict_unpredictable h).1 (by decide)

theorem advsimd_of_simdVerdict {cfg : Config} {op q : BitVec 1} {cmode : BitVec 4} {d : BitVec 5} {imm8 : BitVec 8}
    {k : DecodeConstants} (h : simdVerdict cfg op cmode q d imm8 = .ok k) : k.advsimd = true := by
  unfold simdVerdict at h
  split at h
  · cases h
  · cases h
    rfl

/-- The argument of the enable check that the decode text binds (30_encoding.md R90). -/
theorem advsimd_of_verdictOf {s : State} {i : Instr} {k : DecodeConstants} (h : verdictOf s i = .ok k) :
    k.advsimd = advsimdOf i := by
  cases i with
  | a1I32D | a3I16D | a4I32D | a4I8D | a4F32D | a5I64D | t1I32D | t3I16D | t4I32D | t4I8D | t4F32D | t5I64D
  | a1I32Q | a3I16Q | a4I32Q | a4I8Q | a4F32Q | a5I64Q | t1I32Q | t3I16Q | t4I32Q | t4I8Q | t4F32Q | t5I64Q =>
    exact advsimd_of_simdVerdict h
  | a2F16 | a2F32 | a2F64 | a2Size00 | t2F16 | t2F32 | t2F64 | t2Size00 =>
    have hk : (verdictOf s _).constants = some k := congrArg Verdict.constants h
    obtain ⟨_, rfl⟩ := fpVerdict_constants hk
    rfl

/-! ### The causes of UNDEFINED -/

theorem exec_of_textUndefined {i : Instr} {s : State} (hz : s.sbzAccepted (sbzOf i))
    (hc : conditionPassed (currentCond s i) s.flags = true) (h : TextUndefined s i) : exec i s = .fault .undefined := by
  rw [exec_of_sbzAccepted hz, (verdictOf_undefined_iff s i).2 h, operate_undefined hc]

/-- Settles O20: the first test of `TextUndefined`, in the encodings that have no should-be-zero bits. -/
theorem oddQuadwordIsUndefined : Obligations.OddQuadwordIsUndefined := by
  intro c2 c1 d imm8 s odd
  have odd' : (d.extractLsb' 0 1 == 0b1#1) = true := beq_iff_eq.2 odd
  refine ⟨fun i hi => ?a32, fun hc i hi => ?t32⟩
  case a32 =>
    simp only [List.mem_cons, List.not_mem_nil, or_false] at hi
    rcases hi with rfl | rfl | rfl | rfl | rfl | rfl <;>
      exact exec_of_textUndefined (.inl rfl) (conditionPassed_always _) (.inl odd')
  case t32 =>
    simp only [List.mem_cons, List.not_mem_nil, or_false] at hi
    rcases hi with rfl | rfl | rfl | rfl | rfl | rfl <;>
      exact exec_of_textUndefined (.inl rfl) hc (.inl odd')

/-- Settles O21: the second test of `TextUndefined`. -/
theorem shortVectorModeMakesScalarFormsUndefined : Obligations.ShortVectorModeMakesScalarFormsUndefined := by
  intro cond d imm8 sbz s short hz
  refine ⟨fun hc i hi => ?a32, fun hc i hi => ?t32⟩
  case a32 | t32 =>
    simp only [List.mem_cons, List.not_mem_nil, or_false] at hi
    rcases hi with rfl | rfl | rfl | rfl <;>
      exact exec_of_textUndefined hz hc (.inr (.inl ⟨rfl, short⟩))

/-- Settles O22: the third and the fourth test of `TextUndefined`. -/
theorem sizeZeroAndMissingFp16AreUndefined : Obligations.SizeZeroAndMissingFp16AreUndefined := by
  intro cond d imm8 sbz s hz
  have size00 : ∀ {i}, sbzOf i = sbz → conditionPassed (currentCond s i) s.flags = true →
      sizeField i = some 0b00#2 → exec i s = .fault .undefined := fun hs hc h =>
    exec_of_textUndefined (hs ▸ hz) hc (.inr (.inr (.inl h)))
  have noFp16 : ∀ {i}, sbzOf i = sbz → conditionPassed (currentCond s i) s.flags = true →
      sizeField i = some 0b01#2 → s.config.haveFP16 = false → exec i s = .fault .undefined := fun hs hc h hf =>
    exec_of_textUndefined (hs ▸ hz) hc (.inr (.inr (.inr ⟨h, hf⟩)))
  exact ⟨fun hc => ⟨size00 rfl hc rfl, noFp16 rfl hc rfl⟩, fun hc => ⟨size00 rfl hc rfl, noFp16 rfl hc rfl⟩⟩

/-- With the condition passed, the operation on the verdict of the decode text faults as UNDEFINED where the text or the
enable check says so, and else only as a permitted choice of a conditional half-precision form. -/
theorem exec_undefined_cases {i : Instr} {s : State} (hz : s.sbzAccepted (sbzOf i))
    (hc : conditionPassed (currentCond s i) s.flags = true) :
    (verdictOf s i = .undefined ∧ exec i s = .fault .undefined) ∨ conditionalHalf s i = true ∨
      (exec i s = .fault .undefined ↔ fpSimdAccess s.config s.ctl (advsimdOf i) = .undefined) := by
  rw [exec_of_sbzAccepted hz]
  cases hv : verdictOf s i with
  | undefined => exact .inl ⟨rfl, operate_undefined hc⟩
  | unpredictable k => exact .inr (.inl (conditionalHalf_of_verdictOf hv))
  | ok k =>
    rw [operate_ok hc, ← advsimd_of_verdictOf hv]
    exact .inr (.inr execute_undefined_iff)

/-- Settles O27: the tests of the text are `TextUndefined`; the rest is `exec_undefined_cases`. -/
theorem undefinedEncodingsAreTheListedOnes : Obligations.UndefinedEncodingsAreTheListedOnes := by
  intro i s hc hz
  simp only [← not_and_or]
  have text : TextUndefined s i → exec i s = .fault .undefined := exec_of_textUndefined hz hc
  refine ⟨fun h => text (.inl h), fun h => text (.inr (.inl h)), fun h => text (.inr (.inr (.inl h))),
    fun h => text (.inr (.inr (.inr h))), fun disabled half => ?enableCheck, fun undef => ?complete⟩
  case enableCheck =>
    rcases exec_undefined_cases hz hc with ⟨_, h⟩ | h | h
    · exact h
    · exact absurd (half.symm.trans h) (by decide)
    · exact h.2 disabled
  case complete =>
    rcases exec_undefined_cases hz hc with ⟨h, _⟩ | h | h
    · rcases (verdictOf_undefined_iff s i).1 h with h | h | h | h
      · exact .inl h
      · exact .inr (.inl h)
      · exact .inr (.inr (.inl h))
      · exact .inr (.inr (.inr (.inl h)))
    · exact .inr (.inr (.inr (.inr (.inr h))))
    · exact .inr (.inr (.inr (.inr (.inl (h.1 undef)))))

/-! ### The should-be-zero bits (30_encoding.md R97) -/

theorem exec_of_sbz_fault {i : Instr} {s : State} (hz : sbzOf i ≠ 0#2) (hf : s.config.sbzPolicy = .fault) :
    exec i s = .fault .unpredictable := by
  rw [exec_eq_operateSbz, operateSbz_of_not_accepted hz hf]

/-- Settles O26: `operateSbz` tests the bits before all else, and under `ignore` is `operate` whatever they are. -/
theorem shouldBeZeroBitsFaultOrAreIgnored : Obligations.ShouldBeZeroBitsFaultOrAreIgnored := by
  intro cond d imm8 sbz s
  refine ⟨fun hf hz i hi => ?faults, fun hi => ?ignored⟩
  case faults =>
    simp only [List.mem_cons, List.not_mem_nil, or_false] at hi
    rcases hi with rfl | rfl | rfl | rfl | rfl | rfl | rfl | rfl <;> exact exec_of_sbz_fault hz hf
  case ignored =>
    have same : ∀ {i j}, currentCond s i = currentCond s j → verdictOf s i = verdictOf s j → exec i s = exec j s :=
      exec_congr (.inr hi) (.inr hi)
    exact ⟨same rfl rfl, same rfl rfl, same rfl rfl, same rfl rfl, same rfl rfl, same rfl rfl, same rfl rfl,
      same rfl rfl⟩

end Sys2Proof.Machine
end

section
/-! The constants of the Advanced SIMD forms (30_encoding.md R85, R86, R108) and their write to D[d], or to D[d] and
D[d+1] (40_vmov_imm_operation.md R125). -/

namespace Sys2Proof.Machine

/-! ### The constant of each form where `ExpandSimd` is the adopted one (30_encoding.md R86) -/

/-- A byte between zeros is the byte shifted to its place. -/
theorem zeros_byte_zeros (h l : Nat) (b : Byte) : 0#h ++ b ++ 0#l = b.setWidth (h + 8 + l) <<< l := by
  ext i hi
  simp
  grind

theorem zeros_byte (h : Nat) (b : Byte) : 0#h ++ b = b.setWidth (h + 8) := by
  ext i hi
  simp
  grind

theorem byte_zeros (l : Nat) (b : Byte) : b ++ 0#l = b.setWidth (8 + l) <<< l := by
  ext i hi
  simp
  grind

/-- `imm8` in byte `c` of the element. -/
theorem expandSimd_i32 (c : BitVec 2) (imm8 : BitVec 8) :
    expandSimd 0b0#1 (0b0#1 ++ c ++ 0b0#1) imm8 = replicate32 (imm8.setWidth 32 <<< (8 * c.toNat)) := by
  rcases bitVec2_cases c with rfl | rfl | rfl | rfl
  · exact congrArg replicate32 ((zeros_byte 24 imm8).trans (BitVec.shiftLeft_zero _).symm)
  · exact congrArg replicate32 (zeros_byte_zeros 16 8 imm8)
  · exact congrArg replicate32 (zeros_byte_zeros 8 16 imm8)
  · exact congrArg replicate32 (byte_zeros 24 imm8)

/-- `imm8` in byte `c` of the element. -/
theorem expandSimd_i16 (c : BitVec 1) (imm8 : BitVec 8) :
    expandSimd 0b0#1 (0b10#2 ++ c ++ 0b0#1) imm8 = replicate16 (imm8.setWidth 16 <<< (8 * c.toNat)) := by
  rcases BitVec.eq_zero_or_eq_one c with rfl | rfl
  · exact congrArg replicate16 ((zeros_byte 8 imm8).trans (BitVec.shiftLeft_zero _).symm)
  · exact congrArg replicate16 (byte_zeros 8 imm8)

/-- `imm8` above one or two bytes of ones. -/
theorem expandSimd_i32_ones (c : BitVec 1) (imm8 : BitVec 8) : expandSimd 0b0#1 (0b110#3 ++ c) imm8 =
    replicate32 (if c = 0b0#1 then 0#16 ++ imm8 ++ 0xFF#8 else 0#8 ++ imm8 ++ 0xFFFF#16) := by
  rcases BitVec.eq_zero_or_eq_one c with rfl | rfl <;> rfl

theorem expandSimd_i8 (imm8 : BitVec 8) : expandSimd 0b0#1 0b1110#4 imm8 = replicate8 imm8 := rfl

/-- The fields of the two functions are cut differently: `imm8<5:0>` here, `imm8<5:4>` and `imm8<3:0>` in R87. -/
theorem expandSimd_f32 (imm8 : BitVec 8) : expandSimd 0b0#1 0b1111#4 imm8 = replicate32 (expandVfp32 imm8) := by
  have low6 : imm8.extractLsb' 4 2 ++ imm8.extractLsb' 0 4 = imm8.extractLsb' 0 6 :=
    BitVec.extractLsb'_append_extractLsb'_eq_extractLsb' rfl
  refine congrArg replicate32 ?_
  simp only [expandVfp32, ← low6, BitVec.append_assoc, BitVec.cast_eq]

theorem expandSimd_i64 (imm8 : BitVec 8) : expandSimd 0b1#1 0b1110#4 imm8 = elementByteMask imm8 := rfl

theorem simdExpand_forms {cfg : Config} (h : cfg.expandSimd = .adopted) (c2 : BitVec 2) (c1 : BitVec 1)
    (imm8 : BitVec 8) :
    simdExpand cfg 0b0#1 (0b0#1 ++ c2 ++ 0b0#1) imm8 = replicate32 (imm8.setWidth 32 <<< (8 * c2.toNat)) ∧
    simdExpand cfg 0b0#1 (0b10#2 ++ c1 ++ 0b0#1) imm8 = replicate16 (imm8.setWidth 16 <<< (8 * c1.toNat)) ∧
    simdExpand cfg 0b0#1 (0b110#3 ++ c1) imm8 =
      replicate32 (if c1 = 0b0#1 then 0#16 ++ imm8 ++ 0xFF#8 else 0#8 ++ imm8 ++ 0xFFFF#16) ∧
    simdExpand cfg 0b0#1 0b1110#4 imm8 = replicate8 imm8 ∧
    simdExpand cfg 0b0#1 0b1111#4 imm8 = replicate32 (expandVfp32 imm8) ∧
    simdExpand cfg 0b1#1 0b1110#4 imm8 = elementByteMask imm8 := by
  simp only [simdExpand_adopted h]
  exact ⟨expandSimd_i32 c2 imm8, expandSimd_i16 c1 imm8, expandSimd_i32_ones c1 imm8, expandSimd_i8 imm8,
    expandSimd_f32 imm8, expandSimd_i64 imm8⟩

/-! ### One element, replicated, whichever `ExpandSimd` is (30_encoding.md R86 constraint 2) -/

theorem simdExpand_other {cfg : Config} (h : cfg.expandSimd = .other) (op : BitVec 1) (cmode : BitVec 4)
    (imm8 : BitVec 8) : simdExpand cfg op cmode imm8 = expandSimdOther op cmode imm8 := by
  unfold simdExpand; rw [h]

/-- Settles O51: for the adopted `ExpandSimd` the elements are those of `simdExpand_forms`. -/
theorem expandedConstantIsOneReplicatedElement : Obligations.ExpandedConstantIsOneReplicatedElement := by
  intro cfg c2 c1 imm8
  cases h : cfg.expandSimd with
  | adopted =>
    obtain ⟨i32, i16, i32ones, i8, f32, _⟩ := simdExpand_forms h c2 c1 imm8
    exact ⟨⟨_, i32⟩, ⟨_, i16⟩, ⟨_, i32ones⟩, ⟨_, i8⟩, ⟨_, f32⟩⟩
  | other =>
    simp only [simdExpand_other h]
    refine ⟨?i32, ?i16, ?i32ones, ⟨_, rfl⟩, ⟨_, rfl⟩⟩
    case i32 => rcases bitVec2_cases c2 with rfl | rfl | rfl | rfl <;> exact ⟨_, rfl⟩
    case i16 | i32ones => rcases BitVec.eq_zero_or_eq_one c1 with rfl | rfl <;> exact ⟨_, rfl⟩

/-! ### The write -/

theorem operate_simdD {s : State} {cond : BitVec 4} (he : s.enabled true) (hc : conditionPassed cond s.flags = true)
    (op : BitVec 1) (cmode : BitVec 4) (d : BitVec 5) (imm8 : BitVec 8) :
    operate cond (simdVerdict s.config op cmode 0b0#1 d imm8) s =
      .next { s with simd := s.simd.setIfInBounds d.toNat (simdExpand s.config op cmode imm8)
                     pc := s.pc + 4#32
                     itstate := itAfter s } := by
  rw [simdVerdict, if_neg (by simp), operate_ok hc, execute_enabled he]
  rfl

theorem operate_simdQ {s : State} {cond : BitVec 4} {d : BitVec 5} (he : s.enabled true)
    (heven : d.extractLsb' 0 1 = 0b0#1) (hc : conditionPassed cond s.flags = true) (op : BitVec 1) (cmode : BitVec 4)
    (imm8 : BitVec 8) :
    operate cond (simdVerdict s.config op cmode 0b1#1 d imm8) s =
      .next { s with simd := (s.simd.setIfInBounds d.toNat (simdExpand s.config op cmode imm8)).setIfInBounds
                       (d.toNat + 1) (simdExpand s.config op cmode imm8)
                     pc := s.pc + 4#32
                     itstate := itAfter s } := by
  rw [simdVerdict, if_neg (by simp [heven]), operate_ok hc, execute_enabled he]
  rfl

/-- Settles O12: each form is `operate_simdD` for its `op` and `cmode`. -/
theorem a32DoublewordFormsWriteTheConstant : Obligations.A32DoublewordFormsWriteTheConstant := by
  intro c2 c1 d imm8 s he
  have run := operate_simdD he (conditionPassed_always s.flags)
  exact ⟨run .., run .., run .., run .., run .., run .., fun h => simdExpand_forms h c2 c1 imm8⟩

/-- Settles O13: each form is `operate_simdQ` for its `op` and `cmode`. -/
theorem a32QuadwordFormsWriteTheConstant : Obligations.A32QuadwordFormsWriteTheConstant := by
  intro c2 c1 d imm8 s he heven
  have run := operate_simdQ he heven (conditionPassed_always s.flags)
  exact ⟨run .., run .., run .., run .., run .., run .., fun h => simdExpand_forms h c2 c1 imm8⟩

/-- Settles O14: each form is `operate_simdD` for its `op` and `cmode`. -/
theorem t32DoublewordFormsWriteTheConstant : Obligations.T32DoublewordFormsWriteTheConstant := by
  intro c2 c1 d imm8 s he hc
  have run := operate_simdD he hc
  exact ⟨run .., run .., run .., run .., run .., run .., fun h => simdExpand_forms h c2 c1 imm8⟩

/-- Settles O15: each form is `operate_simdQ` for its `op` and `cmode`. -/
theorem t32QuadwordFormsWriteTheConstant : Obligations.T32QuadwordFormsWriteTheConstant := by
  intro c2 c1 d imm8 s he heven hc
  have run := operate_simdQ he heven hc
  exact ⟨run .., run .., run .., run .., run .., run .., fun h => simdExpand_forms h c2 c1 imm8⟩

/-! ### Two encodings of one constant (30_encoding.md R111) -/

/-- The verdict depends on `op`, `cmode` and `imm8` through the constant only. -/
theorem simdVerdict_congr {cfg : Config} {op op' : BitVec 1} {cmode cmode' : BitVec 4} {imm8 imm8' : BitVec 8}
    (q : BitVec 1) (d : BitVec 5) (h : simdExpand cfg op cmode imm8 = simdExpand cfg op' cmode' imm8') :
    simdVerdict cfg op cmode q d imm8 = simdVerdict cfg op' cmode' q d imm8' := by
  simp only [simdVerdict, h]

/-- Settles O36: in each clause the two constants are one number. -/
theorem oneConstantHasSeveralEncodings : Obligations.OneConstantHasSeveralEncodings := by
  intro d s h
  have same : ∀ {op op' cmode cmode' imm8 imm8'}, expandSimd op cmode imm8 = expandSimd op' cmode' imm8' →
      operate condAlways (simdVerdict s.config op cmode 0b0#1 d imm8) s =
        operate condAlways (simdVerdict s.config op' cmode' 0b0#1 d imm8') s := fun hx => by
    rw [simdVerdict_congr]
    rw [simdExpand_adopted h, simdExpand_adopted h, hx]
  have placements32 : ∀ c : BitVec 2,
      expandSimd 0b0#1 (0b0#1 ++ c ++ 0b0#1) 0x00#8 = expandSimd 0b0#1 0b0000#4 0x00#8 := by decide
  have placements16 : ∀ c : BitVec 1,
      expandSimd 0b0#1 (0b10#2 ++ c ++ 0b0#1) 0x00#8 = expandSimd 0b0#1 0b0000#4 0x00#8 := by decide
  exact ⟨fun c => same (placements32 c), same (by decide), fun c => same (placements16 c), same (by decide),
    same (by decide), same (by decide)⟩

end Sys2Proof.Machine
end

section
/-! The assembler line of an instruction: the register it names, the element it gives, and what an assembler refuses
(30_encoding.md R101 to R108, R114). -/

namespace Sys2Proof.Machine

/-! ### What a line holds, where there is one -/

theorem lineD_eq_some {cond : BitVec 4} {dt : DataType} {d : BitVec 5} {imm : AsmImm} {l : AsmLine}
    (h : lineD cond dt d imm = some l) :
    l = { cond := cond, qualifier := .omitted, dt := dt, dest := .d d, imm := imm } := by
  unfold lineD at h
  split at h
  · cases h
  · exact (Option.some.inj h).symm

theorem lineQ_eq_some {cond : BitVec 4} {dt : DataType} {d : BitVec 5} {imm : AsmImm} {l : AsmLine}
    (h : lineQ cond dt d imm = some l) : d.extractLsb' 0 1 = 0b0#1 ∧
      l = { cond := cond, qualifier := .omitted, dt := dt, dest := .q (d.extractLsb' 1 4), imm := imm } := by
  unfold lineQ at h
  split at h
  · cases h
  · next hc =>
    exact ⟨(BitVec.eq_zero_or_eq_one _).resolve_right fun odd => hc (.inr odd), (Option.some.inj h).symm⟩

theorem lineScalar_eq_some {cond : BitVec 4} {dt : DataType} {dest : RegName} {imm8 : BitVec 8} {sbz : BitVec 2}
    {l : AsmLine} (h : lineScalar cond dt dest imm8 sbz = some l) :
    l = { cond := cond, qualifier := .omitted, dt := dt, dest := dest, imm := .float (vfpTimes128 imm8) } := by
  unfold lineScalar at h
  split at h
  · cases h
  · exact (Option.some.inj h).symm

theorem lineHalf_eq_some {conditional : Bool} {cond : BitVec 4} {d : BitVec 5} {imm8 : BitVec 8} {sbz : BitVec 2}
    {l : AsmLine} (h : lineHalf conditional cond d imm8 sbz = some l) :
    l = { cond := cond, qualifier := .omitted, dt := .f16, dest := .s d, imm := .float (vfpTimes128 imm8) } := by
  unfold lineHalf at h
  split at h
  · cases h
  · exact lineScalar_eq_some h

/-! ### The fields `D` and `Vd` of a word (30_encoding.md R104 to R106) -/

/-- Fields `D` and `Vd` of a word are those of the register name. -/
def NamesRegister (w : Word) (r : RegName) : Prop := w.extractLsb' 22 1 = r.dBit ∧ w.extractLsb' 12 4 = r.vd

theorem encodeSimd_names_d (t : ISet) (op : BitVec 1) (cmode : BitVec 4) (q : BitVec 1) (d : BitVec 5)
    (imm8 : BitVec 8) : NamesRegister (encodeSimd t op cmode q d imm8) (.d d) := by
  cases t <;>
    simp (disch := decide) only [NamesRegister, RegName.dBit, RegName.vd, encodeSimd, encodeSimdA32, encodeSimdT32,
      BitVec.extractLsb'_append_eq_of_add_le, BitVec.extractLsb'_append_eq_of_le] <;>
    simp

/-- An even D number and the Q number that is its half set the same fields. -/
theorem NamesRegister.q_of_even {w : Word} {d : BitVec 5} (h : NamesRegister w (.d d))
    (heven : d.extractLsb' 0 1 = 0b0#1) :
    NamesRegister w (.q (d.extractLsb' 1 4)) := by
  obtain ⟨hd, hvd⟩ := h
  have top : (d.extractLsb' 1 4).extractLsb' 3 1 = d.extractLsb' 4 1 := extractLsb'_extractLsb' d (by decide)
  have low : (d.extractLsb' 1 4).extractLsb' 0 3 = d.extractLsb' 1 3 := extractLsb'_extractLsb' d (by decide)
  have whole : d.extractLsb' 1 3 ++ d.extractLsb' 0 1 = d.extractLsb' 0 4 :=
    BitVec.extractLsb'_append_extractLsb'_eq_extractLsb' rfl
  constructor
  · rw [hd]
    exact top.symm
  · rw [hvd, RegName.vd, RegName.vd, low, ← heven, whole]

theorem encodeFpA32_names (r : RegName) (cond : BitVec 4) (size : BitVec 2) (imm8 : BitVec 8) (sbz : BitVec 2) :
    NamesRegister (encodeFpA32 cond size r.dBit r.vd imm8 sbz) r := by
  simp (disch := decide) only [NamesRegister, encodeFpA32, BitVec.extractLsb'_append_eq_of_add_le,
    BitVec.extractLsb'_append_eq_of_le]
  simp

theorem encodeFpT32_names (r : RegName) (size : BitVec 2) (imm8 : BitVec 8) (sbz : BitVec 2) :
    NamesRegister (encodeFpT32 size r.dBit r.vd imm8 sbz) r :=
  encodeFpA32_names r 0b1110#4 size imm8 sbz

/-- Settles O44: a line of a 64-bit variant names D<d>, of a 128-bit one the Q register of an even d, and of a scalar one
the register that its `D` and `Vd` come from. -/
theorem assembledNameIsTheEncodedRegister : Obligations.AssembledNameIsTheEncodedRegister := by
  intro cfg i it l h
  cases i with
  | a1I32D | a3I16D | a4I32D | a4I8D | a4F32D | a5I64D =>
    obtain rfl := lineD_eq_some h
    exact encodeSimd_names_d .a32 ..
  | t1I32D | t3I16D | t4I32D | t4I8D | t4F32D | t5I64D =>
    obtain rfl := lineD_eq_some h
    exact encodeSimd_names_d .t32 ..
  | a1I32Q | a3I16Q | a4I32Q | a4I8Q | a4F32Q | a5I64Q =>
    obtain ⟨heven, rfl⟩ := lineQ_eq_some h
    exact (encodeSimd_names_d .a32 ..).q_of_even heven
  | t1I32Q | t3I16Q | t4I32Q | t4I8Q | t4F32Q | t5I64Q =>
    obtain ⟨heven, rfl⟩ := lineQ_eq_some h
    exact (encodeSimd_names_d .t32 ..).q_of_even heven
  | a2F16 _ d =>
    obtain rfl := lineHalf_eq_some h
    exact encodeFpA32_names (.s d) ..
  | a2F32 _ d =>
    obtain rfl := lineScalar_eq_some h
    exact encodeFpA32_names (.s d) ..
  | a2F64 _ d =>
    obtain rfl := lineScalar_eq_some h
    exact encodeFpA32_names (.d d) ..
  | t2F16 d =>
    obtain rfl := lineHalf_eq_some h
    exact encodeFpT32_names (.s d) ..
  | t2F32 d =>
    obtain rfl := lineScalar_eq_some h
    exact encodeFpT32_names (.s d) ..
  | t2F64 d =>
    obtain rfl := lineScalar_eq_some h
    exact encodeFpT32_names (.d d) ..
  | a2Size00 | t2Size00 => cases h

/-! ### The element of the line fills the destination (30_encoding.md R108) -/

/-- An element of a data type, replicated to the width of a D register. -/
def fillOf (dt : DataType) (e : DWord) : DWord :=
  match dt with
  | .i8 => replicate8 (e.setWidth 8)
  | .i16 => replicate16 (e.setWidth 16)
  | .i32 => replicate32 (e.setWidth 32)
  | _ => e

theorem replicate32_setWidth (e : Word) : (replicate32 e).setWidth 32 = e := BitVec.setWidth_append_eq_right
theorem replicate16_setWidth (e : Half) : (replicate16 e).setWidth 16 = e := BitVec.setWidth_append_eq_right
theorem replicate8_setWidth (e : Byte) : (replicate8 e).setWidth 8 = e := BitVec.setWidth_append_eq_right

theorem asmElement_setWidth {n : Nat} (hn : n ≤ 64) (cfg : Config) (op : BitVec 1) (cmode : BitVec 4)
    (imm8 : BitVec 8) :
    (asmElement cfg n op cmode imm8).setWidth n = (simdExpand cfg op cmode imm8).setWidth n := by
  simp [asmElement, hn]

theorem fillOf_i32 {cfg : Config} {op : BitVec 1} {cmode : BitVec 4} {imm8 : BitVec 8}
    (h : ∃ e : Word, simdExpand cfg op cmode imm8 = replicate32 e) :
    fillOf .i32 (asmElement cfg 32 op cmode imm8) = simdExpand cfg op cmode imm8 := by
  obtain ⟨e, he⟩ := h
  rw [fillOf, asmElement_setWidth (by decide), he, replicate32_setWidth]

theorem fillOf_i16 {cfg : Config} {op : BitVec 1} {cmode : BitVec 4} {imm8 : BitVec 8}
    (h : ∃ e : Half, simdExpand cfg op cmode imm8 = replicate16 e) :
    fillOf .i16 (asmElement cfg 16 op cmode imm8) = simdExpand cfg op cmode imm8 := by
  obtain ⟨e, he⟩ := h
  rw [fillOf, asmElement_setWidth (by decide), he, replicate16_setWidth]

theorem fillOf_i8 {cfg : Config} {op : BitVec 1} {cmode : BitVec 4} {imm8 : BitVec 8}
    (h : ∃ e : Byte, simdExpand cfg op cmode imm8 = replicate8 e) :
    fillOf .i8 (asmElement cfg 8 op cmode imm8) = simdExpand cfg op cmode imm8 := by
  obtain ⟨e, he⟩ := h
  rw [fillOf, asmElement_setWidth (by decide), he, replicate8_setWidth]

theorem fillOf_i64 (cfg : Config) (op : BitVec 1) (cmode : BitVec 4) (imm8 : BitVec 8) :
    fillOf .i64 (asmElement cfg 64 op cmode imm8) = simdExpand cfg op cmode imm8 := by
  simp [fillOf, asmElement]

/-- The register of the line holds the element in every lane. -/
def LineFilled (l : AsmLine) (e : DWord) (t : State) : Prop :=
  match l.dest with
  | .d n => readD n.toNat t = fillOf l.dt e
  | .q n => readQ n.toNat t = fillOf l.dt e ++ fillOf l.dt e
  | .s _ => False

/-- A completed Advanced SIMD operation whose condition passes leaves the constant in each D register of its
destination. -/
theorem readD_of_operate_simd {s t : State} {cond : BitVec 4} {op q : BitVec 1} {cmode : BitVec 4} {d : BitVec 5}
    {imm8 : BitVec 8} {m : Nat} (hc : conditionPassed cond s.flags = true)
    (ht : operate cond (simdVerdict s.config op cmode q d imm8) s = .next t) (hm : m < 32)
    (hr : d.toNat ≤ m ∧ m < d.toNat + if q = 0b0#1 then 1 else 2) :
    readD m t = simdExpand s.config op cmode imm8 := by
  unfold simdVerdict at ht
  split at ht
  · rw [operate_undefined hc] at ht
    cases ht
  · rw [operate_ok hc] at ht
    obtain ⟨_, rfl⟩ := execute_next ht
    exact readD_writeDs_same hm hr

/-- An even D number is twice the Q number that its upper four bits are (30_encoding.md R105). -/
theorem two_mul_toNat_of_even {d : BitVec 5} (h : d.extractLsb' 0 1 = 0b0#1) :
    d.toNat = 2 * (d.extractLsb' 1 4).toNat := by
  revert d
  decide

theorem lineD_filled {s t : State} {cond : BitVec 4} {dt : DataType} {op : BitVec 1} {cmode : BitVec 4} {d : BitVec 5}
    {imm8 : BitVec 8} {e0 e : DWord} {l : AsmLine} (hl : lineD cond dt d (.int e0) = some l) (he : l.imm = .int e)
    (hc : conditionPassed l.cond s.flags = true)
    (ht : operate cond (simdVerdict s.config op cmode 0b0#1 d imm8) s = .next t)
    (hfill : fillOf dt e0 = simdExpand s.config op cmode imm8) : LineFilled l e t := by
  obtain rfl := lineD_eq_some hl
  cases he
  exact (readD_of_operate_simd hc ht d.isLt ⟨Nat.le_refl _, Nat.lt_succ_self _⟩).trans hfill.symm

theorem lineQ_filled {s t : State} {cond : BitVec 4} {dt : DataType} {op : BitVec 1} {cmode : BitVec 4} {d : BitVec 5}
    {imm8 : BitVec 8} {e0 e : DWord} {l : AsmLine} (hl : lineQ cond dt d (.int e0) = some l) (he : l.imm = .int e)
    (hc : conditionPassed l.cond s.flags = true)
    (ht : operate cond (simdVerdict s.config op cmode 0b1#1 d imm8) s = .next t)
    (hfill : fillOf dt e0 = simdExpand s.config op cmode imm8) : LineFilled l e t := by
  obtain ⟨heven, rfl⟩ := lineQ_eq_some hl
  cases he
  have hd : d.toNat = 2 * (d.extractLsb' 1 4).toNat := two_mul_toNat_of_even heven
  have hn : (d.extractLsb' 1 4).toNat < 16 := BitVec.isLt _
  have written : ∀ m, 2 * (d.extractLsb' 1 4).toNat ≤ m ∧ m ≤ 2 * (d.extractLsb' 1 4).toNat + 1 →
      readD m t = fillOf dt e0 := fun m hm =>
    (readD_of_operate_simd hc ht (by omega) (by simp; omega)).trans hfill.symm
  show readQ _ t = _
  rw [readQ, written _ (by omega), written _ (by omega)]

/-- Settles O45: a line with an integer constant is that of an Advanced SIMD form, whose constant is the element in
every lane. -/
theorem lineElementFillsTheDestination : Obligations.LineElementFillsTheDestination := by
  intro i s t l e hl he hc ht
  suffices LineFilled l e t from this
  have fill := expandedConstantIsOneReplicatedElement s.config
  cases i with
  | a1I32D c d imm8 | t1I32D c d imm8 =>
    obtain ⟨i32, _, _, _, _⟩ := fill c 0 imm8
    exact lineD_filled hl he hc ht (fillOf_i32 i32)
  | a1I32Q c d imm8 | t1I32Q c d imm8 =>
    obtain ⟨i32, _, _, _, _⟩ := fill c 0 imm8
    exact lineQ_filled hl he hc ht (fillOf_i32 i32)
  | a3I16D c d imm8 | t3I16D c d imm8 =>
    obtain ⟨_, i16, _, _, _⟩ := fill 0 c imm8
    exact lineD_filled hl he hc ht (fillOf_i16 i16)
  | a3I16Q c d imm8 | t3I16Q c d imm8 =>
    obtain ⟨_, i16, _, _, _⟩ := fill 0 c imm8
    exact lineQ_filled hl he hc ht (fillOf_i16 i16)
  | a4I32D c d imm8 | t4I32D c d imm8 =>
    obtain ⟨_, _, i32, _, _⟩ := fill 0 c imm8
    exact lineD_filled hl he hc ht (fillOf_i32 i32)
  | a4I32Q c d imm8 | t4I32Q c d imm8 =>
    obtain ⟨_, _, i32, _, _⟩ := fill 0 c imm8
    exact lineQ_filled hl he hc ht (fillOf_i32 i32)
  | a4I8D d imm8 | t4I8D d imm8 =>
    obtain ⟨_, _, _, i8, _⟩ := fill 0 0 imm8
    exact lineD_filled hl he hc ht (fillOf_i8 i8)
  | a4I8Q d imm8 | t4I8Q d imm8 =>
    obtain ⟨_, _, _, i8, _⟩ := fill 0 0 imm8
    exact lineQ_filled hl he hc ht (fillOf_i8 i8)
  | a5I64D | t5I64D => exact lineD_filled hl he hc ht (fillOf_i64 ..)
  | a5I64Q | t5I64Q => exact lineQ_filled hl he hc ht (fillOf_i64 ..)
  | a4F32D | t4F32D =>
    obtain rfl := lineD_eq_some hl
    cases he
  | a4F32Q | t4F32Q =>
    obtain ⟨_, rfl⟩ := lineQ_eq_some hl
    cases he
  | a2F16 | t2F16 =>
    obtain rfl := lineHalf_eq_some hl
    cases he
  | a2F32 | a2F64 | t2F32 | t2F64 =>
    obtain rfl := lineScalar_eq_some hl
    cases he
  | a2Size00 | t2Size00 => cases hl

/-! ### What an assembler refuses (30_encoding.md R102, R103) -/

theorem assembles_iff {cfg : Config} {it : BitVec 8} {l : AsmLine} {i : Instr} : assembles cfg it l i = true ↔
    l.qualifier ≠ .narrow ∧ disassemble cfg it i = some { l with qualifier := .omitted } := by
  simp [assembles]

theorem not_assembles_of_no_line {cfg : Config} {it : BitVec 8} {l : AsmLine} {i : Instr}
    (h : disassemble cfg it i = none) : assembles cfg it l i = false := by
  simp [assembles, h]

theorem lineHalf_of_conditional {conditional : Bool} (h : conditional = true) (cond : BitVec 4) (d : BitVec 5)
    (imm8 : BitVec 8) (sbz : BitVec 2) : lineHalf conditional cond d imm8 sbz = none :=
  if_pos h

/-- The condition of an A32 Advanced SIMD line is "always" (30_encoding.md R102). -/
theorem cond_of_disassemble_a32 {cfg : Config} {it : BitVec 8} {i : Instr} {l : AsmLine} (hi : i.iset = .a32)
    (hs : advsimdOf i = true) (h : disassemble cfg it i = some l) : l.cond = condAlways := by
  cases i with
  | a1I32D | a3I16D | a4I32D | a4I8D | a4F32D | a5I64D =>
    obtain rfl := lineD_eq_some h
    rfl
  | a1I32Q | a3I16Q | a4I32Q | a4I8Q | a4F32Q | a5I64Q =>
    obtain ⟨_, rfl⟩ := lineQ_eq_some h
    rfl
  | a2F16 | a2F32 | a2F64 | a2Size00 => cases hs
  | _ => cases hi

/-- Settles O46: each refusal is a line that the instruction does not have. -/
theorem assemblerRefusesWhatIsNotALine : Obligations.AssemblerRefusesWhatIsNotALine := by
  intro cfg it l i
  refine ⟨fun hq => ?narrow, fun hq => ?wide, fun cond d imm8 sbz hc => ?a2, fun d imm8 sbz hit => ?t2,
    fun hs hi hc => ?vector⟩
  case narrow => exact Bool.eq_false_iff.2 fun h => (assembles_iff.1 h).1 hq
  case wide =>
    rw [Bool.eq_iff_iff, assembles_iff, assembles_iff]
    simp [hq]
  case a2 => exact not_assembles_of_no_line (lineHalf_of_conditional (bne_iff_ne.2 hc) ..)
  case t2 => exact not_assembles_of_no_line (lineHalf_of_conditional hit ..)
  case vector =>
    refine Bool.eq_false_iff.2 fun h => hc ?_
    obtain ⟨_, hl⟩ := assembles_iff.1 h
    have always := cond_of_disassemble_a32 hi hs hl
    exact always

end Sys2Proof.Machine
end

section
/-! A table word placed for the fetch is the instruction that the table decoder reads (20_memory.md R62; logs 11, 12). -/

namespace Sys2Proof.Machine

theorem pcAligned_alignPc (t : ISet) (pc : Word) : pcAligned t (alignPc t pc) = true := by
  cases t <;> simp [pcAligned, alignPc, BitVec.extractLsb'_and]

/-- Bytes written at four addresses in a row stand there, also where the addresses wrap. -/
theorem bytesAt_writeBytes (m : Memory) (pc : Word) (b0 b1 b2 b3 : Byte) :
    BytesAt (m.writeBytes pc [b0, b1, b2, b3]) pc b0 b1 b2 b3 := by
  have e2 : pc + 1#32 + 1#32 = pc + 2#32 := by rw [BitVec.add_assoc]; rfl
  have e3 : pc + 2#32 + 1#32 = pc + 3#32 := by rw [BitVec.add_assoc]; rfl
  simp only [Memory.writeBytes, e2, e3]
  constructor
  · rw [Memory.read_write_other _ _ _ _ (by bv_omega), Memory.read_write_other _ _ _ _ (by bv_omega),
      Memory.read_write_other _ _ _ _ (by bv_omega), Memory.read_write_same]
  · rw [Memory.read_write_other _ _ _ _ (by bv_omega), Memory.read_write_other _ _ _ _ (by bv_omega),
      Memory.read_write_same]
  · rw [Memory.read_write_other _ _ _ _ (by bv_omega), Memory.read_write_same]
  · exact Memory.read_write_same _ _ _

theorem bytesOfWord_eq_four (t : ISet) (order : ByteOrder) (w : Word) :
    ∃ b0 b1 b2 b3, bytesOfWord t order w = [b0, b1, b2, b3] := by
  cases t <;> cases order <;> exact ⟨_, _, _, _, rfl⟩

theorem exists_decodeBytes_error {t : ISet} {w : Word} {r : DecodeReject} (order : ByteOrder)
    (h : decodeWord t w = .error r) : ∃ r', decodeBytes t order (bytesOfWord t order w) = .error r' := by
  cases t with
  | a32 =>
    have hd : decodeA32 w = .error r := h
    refine ⟨r, ?_⟩
    cases order <;> simp only [bytesOfWord, decodeBytes, wordOfBytes, word_of_bytes, hd]
  | t32 =>
    have hd : decodeT32 (w.extractLsb' 16 16) (w.extractLsb' 0 16) = .error r := h
    cases hw : isWideT32 (w.extractLsb' 16 16) with
    | true =>
      refine ⟨r, ?_⟩
      cases order <;>
        simp only [bytesOfWord, bytesOfHalf, decodeBytes, halfOfBytes, half_of_bytes, List.cons_append, List.nil_append,
          hw, hd, if_true]
    | false =>
      refine ⟨.narrowT32, ?_⟩
      cases order <;>
        simp only [bytesOfWord, bytesOfHalf, decodeBytes, halfOfBytes, half_of_bytes, List.cons_append, List.nil_append,
          hw, Bool.false_eq_true, if_false]

/-- Where the decoder accepts a word's bytes, it accepts the word, and as the same instruction. -/
theorem decodeWord_of_decodeBytes {t : ISet} {order : ByteOrder} {w : Word} {i : Instr} {rest : List Byte}
    (h : decodeBytes t order (bytesOfWord t order w) = .ok (i, rest)) : decodeWord t w = .ok i := by
  cases hd : decodeWord t w with
  | ok j =>
    have hj := decodeBytes_bytesOfWord order [] hd
    rw [List.append_nil, h] at hj
    cases hj
    rfl
  | error r =>
    obtain ⟨r', hr⟩ := exists_decodeBytes_error order hd
    rw [hr] at h
    cases h

theorem decodeTableWord_eq_some {nbits w : Nat} {i : Instr} (h : decodeTableWord nbits w = some i) :
    ∃ x, tableWord nbits w = some x ∧ decodeWord (tableISet x) x = .ok i := by
  unfold decodeTableWord at h
  split at h
  · cases h
  · next x hx =>
    split at h
    · next hj =>
      cases h
      exact ⟨x, hx, decodeWord_of_decodeBytes hj⟩
    · cases h

/-- Settles O10: the placed bytes stand from the aligned `pc` on, and decode in the byte order of the fetch. -/
theorem placedTableWordIsExecuted : Obligations.PlacedTableWordIsExecuted := by
  intro s nbits w i h
  obtain ⟨x, hx, hdecode⟩ := decodeTableWord_eq_some h
  obtain ⟨b0, b1, b2, b3, hbytes⟩ := bytesOfWord_eq_four (tableISet x) s.config.fetchByteOrder x
  have placed : s.withFetchWord nbits w = placeWord s x := by simp only [State.withFetchWord, hx]
  rw [placed]
  refine step_of_bytesAt (b0 := b0) (b1 := b1) (b2 := b2) (b3 := b3) (pcAligned_alignPc _ _) ?bytes ?decoded
  case bytes =>
    simp only [placeWord, hbytes]
    exact bytesAt_writeBytes ..
  case decoded =>
    have decoded := decodeBytes_bytesOfWord s.config.fetchByteOrder [] hdecode
    rwa [hbytes] at decoded

end Sys2Proof.Machine
end

section
/-! The floating-point constants (30_encoding.md R87, R88). -/

namespace Sys2Proof.Machine

/-! ### The exponent and the fraction as numbers, in the three formats -/

theorem exponent16_toNat : ∀ (b : BitVec 1) (cd : BitVec 2),
    (~~~b ++ BitVec.replicate 2 b ++ cd).toNat + 3 = (~~~b ++ cd).toNat + 15 := by decide

theorem exponent32_toNat : ∀ (b : BitVec 1) (cd : BitVec 2),
    (~~~b ++ BitVec.replicate 5 b ++ cd).toNat + 3 = (~~~b ++ cd).toNat + 127 := by decide

theorem exponent64_toNat : ∀ (b : BitVec 1) (cd : BitVec 2),
    (~~~b ++ BitVec.replicate 8 b ++ cd).toNat + 3 = (~~~b ++ cd).toNat + 1023 := by decide

theorem toNat_append_zeros {n : Nat} (x : BitVec n) (m : Nat) : (x ++ 0#m).toNat = x.toNat * 2 ^ m := by
  simp [BitVec.toNat_append, Nat.shiftLeft_eq]

theorem fields_of_pattern {n m : Nat} (sign : BitVec 1) (exponent : BitVec n) (fraction : BitVec m) :
    (sign ++ exponent ++ fraction).extractLsb' (m + n) 1 = sign ∧
      (sign ++ exponent ++ fraction).extractLsb' m n = exponent ∧
      (sign ++ exponent ++ fraction).extractLsb' 0 m = fraction := by
  refine ⟨?sign, ?exponent, BitVec.extractLsb'_append_eq_right⟩
  case sign =>
    rw [BitVec.extractLsb'_append_eq_of_le (by omega), Nat.add_sub_cancel_left, BitVec.extractLsb'_append_eq_left]
  case exponent =>
    rw [BitVec.extractLsb'_append_eq_of_le (Nat.le_refl m), Nat.sub_self, BitVec.extractLsb'_append_eq_right]

/-- The sign, the exponent and the magnitude of a pattern whose fraction of `f` bits is `efgh` followed by `m` zeros,
where the bias takes the exponent field to `u - 3` (30_encoding.md R88). The exponent field then lies in the eight places from
`bias - 3` on, so it is neither all zeros nor all ones. -/
theorem number_of_pattern {n f m bias u : Nat} {exponent : BitVec n} {fraction : BitVec f} (sign : BitVec 1)
    (efgh : BitVec 4) (hb : 3 ≤ bias) (hf : f = 4 + m) (hu : u < 8) (he : exponent.toNat + 3 = u + bias)
    (hfrac : fraction.toNat = efgh.toNat * 2 ^ m) :
    (sign ++ exponent ++ fraction).extractLsb' (f + n) 1 = sign ∧
      (∀ v : BitVec n, v.toNat + 3 < bias ∨ bias + 8 ≤ v.toNat + 3 →
        (sign ++ exponent ++ fraction).extractLsb' f n ≠ v) ∧
      (2 ^ f + ((sign ++ exponent ++ fraction).extractLsb' 0 f).toNat) *
          2 ^ ((sign ++ exponent ++ fraction).extractLsb' f n).toNat =
        (16 + efgh.toNat) * 2 ^ u * 2 ^ (bias + f - 7) := by
  obtain ⟨sign_field, exponent_field, fraction_field⟩ := fields_of_pattern sign exponent fraction
  rw [exponent_field, fraction_field, hfrac]
  refine ⟨sign_field, fun v hv => ?range, ?magnitude⟩
  case range =>
    rintro rfl
    omega
  case magnitude =>
    have exponents : m + exponent.toNat = u + (bias + f - 7) := by omega
    calc (2 ^ f + efgh.toNat * 2 ^ m) * 2 ^ exponent.toNat
        = (16 + efgh.toNat) * 2 ^ (m + exponent.toNat) := by rw [hf]; ring
      _ = (16 + efgh.toNat) * 2 ^ u * 2 ^ (bias + f - 7) := by rw [exponents, pow_add]; ring

/-- Settles O39: the three formats differ in the bias and in the number of zeros after `efgh` only. -/
theorem floatingConstantsDenoteTheSameNumber : Obligations.FloatingConstantsDenoteTheSameNumber := by
  intro cfg imm8 h
  simp only [vfpExpand16_adopted h, vfpExpand32_adopted h, vfpExpand64_adopted h]
  have hu : (~~~(imm8.extractLsb' 6 1) ++ imm8.extractLsb' 4 2).toNat < 8 := BitVec.isLt _
  obtain ⟨sign16, range16, number16⟩ := number_of_pattern (f := 10) (imm8.extractLsb' 7 1) (imm8.extractLsb' 0 4)
    (by decide) rfl hu (exponent16_toNat (imm8.extractLsb' 6 1) (imm8.extractLsb' 4 2))
    (toNat_append_zeros (imm8.extractLsb' 0 4) 6)
  obtain ⟨sign32, range32, number32⟩ := number_of_pattern (f := 23) (imm8.extractLsb' 7 1) (imm8.extractLsb' 0 4)
    (by decide) rfl hu (exponent32_toNat (imm8.extractLsb' 6 1) (imm8.extractLsb' 4 2))
    (toNat_append_zeros (imm8.extractLsb' 0 4) 19)
  obtain ⟨sign64, range64, number64⟩ := number_of_pattern (f := 52) (imm8.extractLsb' 7 1) (imm8.extractLsb' 0 4)
    (by decide) rfl hu (exponent64_toNat (imm8.extractLsb' 6 1) (imm8.extractLsb' 4 2))
    (toNat_append_zeros (imm8.extractLsb' 0 4) 48)
  exact ⟨⟨sign16, sign32, sign64⟩,
    ⟨range16 _ (by decide), range16 _ (by decide), range32 _ (by decide), range32 _ (by decide), range64 _ (by decide),
      range64 _ (by decide)⟩,
    number16, number32, number64⟩

end Sys2Proof.Machine
end

section
/-! A completed instruction (40_vmov_imm_operation.md R121, R126, R127): the decoded instruction is all that a step runs,
and how `pc`, ITSTATE, the flags and FPSCR stand after it. -/

namespace Sys2Proof.Machine

/-- Settles O8: the premise of well-formedness is not needed. -/
theorem stepRunsTheDecodedInstruction : Obligations.StepRunsTheDecodedInstruction :=
  fun _ _ _ _ ha hf hd _ => step_of_decode_ok ha hf hd

/-! ### The advance -/

theorem itAfter_of_t32 {s : State} (h : s.iset = .t32) : itAfter s = itAdvance s.itstate := by
  simp only [itAfter, h]

theorem itAdvance_inner_low {it : BitVec 8} (h : it.extractLsb' 0 3 ≠ 0b000#3) :
    (itAdvance it).extractLsb' 0 5 = it.extractLsb' 0 5 <<< 1 := by
  rw [itAdvance_inner h, BitVec.extractLsb'_append_eq_right]

theorem itAdvance_inner_base {it : BitVec 8} (h : it.extractLsb' 0 3 ≠ 0b000#3) :
    (itAdvance it).extractLsb' 5 3 = it.extractLsb' 5 3 := by
  rw [itAdvance_inner h, BitVec.extractLsb'_append_eq_left]

/-- Settles O30: the frame of `Completes`, and the two cases of the advance in T32 state. -/
theorem everyCompletedInstructionAdvances : Obligations.EveryCompletedInstructionAdvances := by
  intro i s t ht
  obtain ⟨_, _, _, _, _, _, _, _, hpc, hit⟩ := (exec_next ht).frame
  refine ⟨by rw [hpc, BitVec.toNat_add]; rfl, fun hi last => ?last, fun hi inner => ?inner, fun hi => ?a32⟩
  case last => rw [hit, itAfter_of_t32 hi, itAdvance_last last]
  case inner =>
    rw [hit, itAfter_of_t32 hi]
    exact ⟨itAdvance_inner_base inner, itAdvance_inner_low inner⟩
  case a32 => rw [hit, itAfter_of_a32 hi]

/-! ### The faults of each operation -/

theorem execute_fault {k : DecodeConstants} {s : State} {f : Fault} (h : execute k s = .fault f) :
    (f = .undefined ∧ fpSimdAccess s.config s.ctl k.advsimd = .undefined) ∨
      (f = .hypTrap ∧ fpSimdAccess s.config s.ctl k.advsimd = .hypTrap) := by
  unfold execute raise at h
  split at h
  · next ha => cases h; exact .inl ⟨rfl, ha⟩
  · next ha => cases h; exact .inr ⟨rfl, ha⟩
  · cases h

theorem conditionFailed_fault {u : Bool} {s : State} {f : Fault} (h : conditionFailed u s = .fault f) :
    f = .undefined ∧ s.config.condFailUndef = true ∧ u = true := by
  unfold conditionFailed raise nop at h
  split at h
  · next hu =>
    split at h
    · cases h
      exact ⟨rfl, (Bool.and_eq_true _ _).mp hu⟩
    · cases h
  · cases h

theorem constrainedUnpredictable_fault {k : DecodeConstants} {s : State} {f : Fault}
    (h : constrainedUnpredictable k s = .fault f) :
    f = .undefined ∨ (f = .hypTrap ∧ fpSimdAccess s.config s.ctl k.advsimd = .hypTrap) := by
  unfold constrainedUnpredictable raise nop at h
  split at h
  · cases h
    exact .inl rfl
  · exact (execute_fault h).imp And.left id
  · cases h

theorem operate_fault {cond : BitVec 4} {v : Verdict} {s : State} {f : Fault} (h : operate cond v s = .fault f) :
    f = .undefined ∨ f = .hypTrap := by
  unfold operate raise at h
  split at h
  · exact (constrainedUnpredictable_fault h).imp id And.left
  · split at h
    · cases h
      exact .inl rfl
    · exact .inl (conditionFailed_fault h).1
  · split at h
    · exact (execute_fault h).imp And.left And.left
    · exact .inl (conditionFailed_fault h).1

theorem operateSbz_fault {sbz : BitVec 2} {cond : BitVec 4} {v : Verdict} {s : State} {f : Fault}
    (h : operateSbz sbz cond v s = .fault f) : f = .unpredictable ∨ operate cond v s = .fault f := by
  unfold operateSbz raise at h
  split at h
  · cases h
    exact .inl rfl
  · exact .inr h

theorem exec_fault {i : Instr} {s : State} {f : Fault} (h : exec i s = .fault f) :
    f = .undefined ∨ f = .hypTrap ∨ f = .unpredictable := by
  rw [exec_eq_operateSbz] at h
  rcases operateSbz_fault h with hf | h
  · exact .inr (.inr hf)
  · exact (operate_fault h).imp id .inl

/-- Settles O31: the frame of `Completes` for a next state, and `exec_fault`. -/
theorem flagsAndStatusAreNeverWritten : Obligations.FlagsAndStatusAreNeverWritten := by
  refine fun i s => ⟨fun t ht => ?written, fun f => exec_fault⟩
  obtain ⟨_, _, _, hflags, hfpscr, _, _, _, _, hit⟩ := (exec_next ht).frame
  exact ⟨hflags, hfpscr, hit⟩

end Sys2Proof.Machine
end

section
/-! An instruction whose condition fails (40_vmov_imm_operation.md R121 step 4, R128), and one whose condition passes and
which the enable check does not let through (R123). -/

namespace Sys2Proof.Machine

/-! ### Which forms no test of the decode text stops -/

theorem verdictOf_ne_unpredictable {s : State} {i : Instr} (h : TextUndefined s i ∨ conditionalHalf s i = false)
    (k : DecodeConstants) : verdictOf s i ≠ .unpredictable k := fun hv => by
  rcases h with h | h
  · rw [(verdictOf_undefined_iff s i).2 h] at hv
    cases hv
  · rw [conditionalHalf_of_verdictOf hv] at h
    cases h

theorem conditionalHalf_of_advsimd {i : Instr} (h : advsimdOf i = true) (s : State) : conditionalHalf s i = false := by
  cases i with
  | a2F16 | a2F32 | a2F64 | a2Size00 | t2F16 | t2F32 | t2F64 | t2Size00 => cases h
  | _ => rfl

theorem sizeField_of_advsimd {i : Instr} (h : advsimdOf i = true) : sizeField i = none := by
  cases i with
  | a2F16 | a2F32 | a2F64 | a2Size00 | t2F16 | t2F32 | t2F64 | t2Size00 => cases h
  | _ => rfl

theorem sbzOf_of_advsimd {i : Instr} (h : advsimdOf i = true) : sbzOf i = 0#2 := by
  cases i with
  | a2F16 | a2F32 | a2F64 | a2Size00 | t2F16 | t2F32 | t2F64 | t2Size00 => cases h
  | _ => rfl

theorem namesOddQuadword_of_not_advsimd {i : Instr} (h : advsimdOf i = false) : namesOddQuadword i = false := by
  cases i with
  | a2F16 | a2F32 | a2F64 | a2Size00 | t2F16 | t2F32 | t2F64 | t2Size00 => rfl
  | _ => cases h

/-- An Advanced SIMD text tests the destination only (30_encoding.md R95). -/
theorem not_textUndefined_of_advsimd {s : State} {i : Instr} (h : advsimdOf i = true)
    (heven : namesOddQuadword i = false) : ¬ TextUndefined s i := by
  simp [TextUndefined, heven, h, sizeField_of_advsimd h]

/-- The text of A2 and T2 tests FPSCR and the size (30_encoding.md R95). -/
theorem not_textUndefined_of_scalar {s : State} {i : Instr} (h : advsimdOf i = false) (hz : s.fpscrZero)
    (hsize : sizeField i ≠ some 0b00#2) (hhalf : sizeField i = some 0b01#2 → s.config.haveFP16 = true) :
    ¬ TextUndefined s i := by
  rintro (odd | ⟨_, short⟩ | size00 | ⟨half, noFp16⟩)
  · rw [namesOddQuadword_of_not_advsimd h] at odd
    cases odd
  · exact short hz
  · exact hsize size00
  · rw [hhalf half] at noFp16
    cases noFp16

/-! ### A failed condition -/

theorem conditionFailed_of_not_admitted {u : Bool} {s : State} (h : s.config.condFailUndef = false ∨ u = false) :
    conditionFailed u s = nop s := by
  refine if_neg ?_
  rw [Bool.and_eq_true]
  rintro ⟨hc, hu⟩
  rcases h with h | h
  · rw [h] at hc; cases hc
  · rw [h] at hu; cases hu

theorem conditionFailed_of_admitted {s : State} (h : s.config.condFailUndef = true) :
    conditionFailed true s = nop (consumeChoice s) ∨ conditionFailed true s = .fault .undefined := by
  simp only [conditionFailed, h, Bool.and_true, if_true]
  cases Config.condFailUndefTaken s.choices with
  | false => exact .inl rfl
  | true => exact .inr rfl

/-- Step 4 of R121 for the whole instruction: its failed condition is the failed condition of the operation, with the
test that the text or the enable check would have said UNDEFINED. -/
theorem exec_of_condition_failed {i : Instr} {s : State} (hz : s.sbzAccepted (sbzOf i))
    (hc : conditionPassed (currentCond s i) s.flags = false) (hu : TextUndefined s i ∨ conditionalHalf s i = false) :
    ∃ u, exec i s = conditionFailed u s ∧
      (u = true ↔ TextUndefined s i ∨ fpSimdAccess s.config s.ctl (advsimdOf i) = .undefined) := by
  rw [exec_of_sbzAccepted hz]
  cases hv : verdictOf s i with
  | undefined =>
    exact ⟨true, by simp [operate, hc], iff_of_true rfl (.inl ((verdictOf_undefined_iff s i).1 hv))⟩
  | unpredictable k => exact absurd hv (verdictOf_ne_unpredictable hu k)
  | ok k =>
    have htext : ¬ TextUndefined s i := fun h => by
      rw [(verdictOf_undefined_iff s i).2 h] at hv
      cases hv
    refine ⟨fpSimdAccess s.config s.ctl k.advsimd == .undefined, by simp [operate, hc], ?_⟩
    rw [advsimd_of_verdictOf hv, beq_iff_eq, or_iff_right htext]

theorem exec_of_condition_failed_nop {i : Instr} {s : State} (hf : s.config.condFailUndef = false)
    (hz : s.sbzAccepted (sbzOf i)) (hc : conditionPassed (currentCond s i) s.flags = false)
    (hu : TextUndefined s i ∨ conditionalHalf s i = false) : exec i s = nop s := by
  obtain ⟨u, hexec, _⟩ := exec_of_condition_failed hz hc hu
  rw [hexec, conditionFailed_of_not_admitted (.inl hf)]

/-- Settles O18: half precision is let in by the text being UNDEFINED, every other form by not being it. -/
theorem failedConditionIsNop : Obligations.FailedConditionIsNop := by
  intro cond c2 c1 d imm8 sbz s hf skipped
  have skips : ∀ i, s.sbzAccepted (sbzOf i) → conditionPassed (currentCond s i) s.flags = false →
      TextUndefined s i ∨ conditionalHalf s i = false → exec i s = skipped := fun i => exec_of_condition_failed_nop hf
  have halfUndefined : ∀ i, advsimdOf i = false → sizeField i = some 0b01#2 →
      (¬ s.fpscrZero ∨ s.config.haveFP16 = false) → TextUndefined s i := fun i ha hs h =>
    h.elim (fun h => .inr (.inl ⟨ha, h⟩)) (fun h => .inr (.inr (.inr ⟨hs, h⟩)))
  refine ⟨fun hc i hi => ?simd, fun hz hc => ?t2, fun hz hc => ?a2⟩
  case simd =>
    simp only [List.mem_cons, List.not_mem_nil, or_false] at hi
    rcases hi with rfl | rfl | rfl | rfl | rfl | rfl | rfl | rfl | rfl | rfl | rfl | rfl <;>
      exact skips _ (.inl rfl) hc (.inr rfl)
  case t2 | a2 =>
    exact ⟨skips _ hz hc (.inr rfl), skips _ hz hc (.inr rfl), skips _ hz hc (.inr rfl),
      fun h => skips _ hz hc (.inl (halfUndefined _ rfl rfl h))⟩

/-- Settles O19: the tests of the text are `TextUndefined`, and `exec_of_condition_failed` says when they or the enable
check admit the fault. -/
theorem condFailUndefAdmitsOneMoreOutcome : Obligations.CondFailUndefAdmitsOneMoreOutcome := by
  intro i s hf hc hz skipped eitherOutcome textUndefined disabled
  have either : TextUndefined s i ∨ conditionalHalf s i = false → TextUndefined s i ∨ disabled → eitherOutcome :=
    fun hu hadmit => by
      obtain ⟨u, hexec, hiff⟩ := exec_of_condition_failed hz hc hu
      obtain rfl := hiff.2 hadmit
      rcases conditionFailed_of_admitted hf with h | h
      · exact .inl (hexec.trans h)
      · exact .inr (hexec.trans h)
  refine ⟨fun text => either (.inl text) (.inl text), fun half dis => either (.inr half) (.inr dis),
    fun half text dis => ?plain⟩
  obtain ⟨u, hexec, hiff⟩ := exec_of_condition_failed hz hc (.inr half)
  have hu : u = false := Bool.eq_false_iff.2 fun h => (hiff.1 h).elim text dis
  rw [hexec, conditionFailed_of_not_admitted (.inr hu)]
  rfl

/-! ### The enable check -/

/-- Steps 5 and 6 of R121 for the whole instruction: the condition passes and the text lets the form through. -/
theorem exec_eq_execute {i : Instr} {s : State} (hz : s.sbzAccepted (sbzOf i))
    (hc : conditionPassed (currentCond s i) s.flags = true) (htext : ¬ TextUndefined s i)
    (half : conditionalHalf s i = false) : ∃ k, k.advsimd = advsimdOf i ∧ exec i s = execute k s := by
  rw [exec_of_sbzAccepted hz]
  cases hv : verdictOf s i with
  | undefined => exact absurd ((verdictOf_undefined_iff s i).1 hv) htext
  | unpredictable k => exact absurd hv (verdictOf_ne_unpredictable (.inr half) k)
  | ok k => exact ⟨k, advsimd_of_verdictOf hv, operate_ok hc k⟩

/-- The outcome is the fault that the answer of the enable check asks for, if it asks for one (R123). -/
def StopsAsAnswered (a : Access) (o : Host.Outcome State Fault Refusal) : Prop :=
  (a = .undefined → o = .fault .undefined) ∧ (a = .hypTrap → o = .fault .hypTrap)

theorem execute_stops (k : DecodeConstants) (s : State) :
    StopsAsAnswered (fpSimdAccess s.config s.ctl k.advsimd) (execute k s) := by
  unfold execute
  cases fpSimdAccess s.config s.ctl k.advsimd with
  | enabled => exact ⟨nofun, nofun⟩
  | undefined => exact ⟨fun _ => rfl, nofun⟩
  | hypTrap => exact ⟨nofun, fun _ => rfl⟩

theorem exec_stops {i : Instr} {s : State} (hz : s.sbzAccepted (sbzOf i))
    (hc : conditionPassed (currentCond s i) s.flags = true) (htext : ¬ TextUndefined s i)
    (half : conditionalHalf s i = false) :
    StopsAsAnswered (fpSimdAccess s.config s.ctl (advsimdOf i)) (exec i s) := by
  obtain ⟨k, ha, hexec⟩ := exec_eq_execute hz hc htext half
  rw [← ha, hexec]
  exact execute_stops k s

theorem exec_stops_of_advsimd {s : State} (i : Instr) (h : advsimdOf i = true) (heven : namesOddQuadword i = false)
    (hc : conditionPassed (currentCond s i) s.flags = true) :
    StopsAsAnswered (fpSimdAccess s.config s.ctl true) (exec i s) :=
  h ▸ exec_stops (.inl (sbzOf_of_advsimd h)) hc (not_textUndefined_of_advsimd h heven) (conditionalHalf_of_advsimd h s)

theorem exec_stops_of_scalar {s : State} (hfpscr : s.fpscrZero) (i : Instr) (h : advsimdOf i = false)
    (hz : s.sbzAccepted (sbzOf i)) (hc : conditionPassed (currentCond s i) s.flags = true)
    (hsize : sizeField i ≠ some 0b00#2) (hhalf : sizeField i = some 0b01#2 → s.config.haveFP16 = true)
    (half : conditionalHalf s i = false) : StopsAsAnswered (fpSimdAccess s.config s.ctl false) (exec i s) :=
  h ▸ exec_stops hz hc (not_textUndefined_of_scalar h hfpscr hsize hhalf) half

/-- Settles O25: every form listed enters steps 5 and 6, with the check's second argument that of its group. -/
theorem enableCheckStopsTheInstruction : Obligations.EnableCheckStopsTheInstruction := by
  intro cond c2 c1 d imm8 sbz s stops simd fp
  have evenD : d.extractLsb' 0 1 = 0b0#1 → (d.extractLsb' 0 1 == 0b1#1) = false := fun h => by rw [h]; rfl
  refine ⟨fun heven i hi => ?a32Q, fun i hi => ?a32D, fun hc heven i hi => ?t32Q, fun hc i hi => ?t32D,
    fun hfpscr hz => ?scalar⟩
  case a32Q =>
    simp only [List.mem_cons, List.not_mem_nil, or_false] at hi
    rcases hi with rfl | rfl | rfl | rfl | rfl | rfl <;>
      exact exec_stops_of_advsimd _ rfl (evenD heven) (conditionPassed_always _)
  case a32D =>
    simp only [List.mem_cons, List.not_mem_nil, or_false] at hi
    rcases hi with rfl | rfl | rfl | rfl | rfl | rfl <;>
      exact exec_stops_of_advsimd _ rfl rfl (conditionPassed_always _)
  case t32Q =>
    simp only [List.mem_cons, List.not_mem_nil, or_false] at hi
    rcases hi with rfl | rfl | rfl | rfl | rfl | rfl <;>
      exact exec_stops_of_advsimd _ rfl (evenD heven) hc
  case t32D =>
    simp only [List.mem_cons, List.not_mem_nil, or_false] at hi
    rcases hi with rfl | rfl | rfl | rfl | rfl | rfl <;>
      exact exec_stops_of_advsimd _ rfl rfl hc
  case scalar =>
    have singleOrDouble : ∀ i, advsimdOf i = false → sbzOf i = sbz →
        conditionPassed (currentCond s i) s.flags = true → sizeField i = some 0b10#2 ∨ sizeField i = some 0b11#2 →
        conditionalHalf s i = false → stops fp (exec i s) :=
      fun i ha hs hc hsize half => exec_stops_of_scalar hfpscr i ha (hs ▸ hz) hc
        (by rcases hsize with h | h <;> simp [h]) (by rcases hsize with h | h <;> simp [h]) half
    have halfPrecision : s.config.haveFP16 = true → ∀ i, advsimdOf i = false → sbzOf i = sbz →
        conditionPassed (currentCond s i) s.flags = true → sizeField i = some 0b01#2 →
        conditionalHalf s i = false → stops fp (exec i s) :=
      fun hfp16 i ha hs hc hsize half => exec_stops_of_scalar hfpscr i ha (hs ▸ hz) hc
        (by simp [hsize]) (fun _ => hfp16) half
    refine ⟨fun hc => ⟨singleOrDouble _ rfl rfl hc (.inl rfl) rfl, singleOrDouble _ rfl rfl hc (.inr rfl) rfl⟩,
      fun hc => ⟨singleOrDouble _ rfl rfl hc (.inl rfl) rfl, singleOrDouble _ rfl rfl hc (.inr rfl) rfl⟩,
      fun hfp16 => ⟨?a2, fun hit => ?t2⟩⟩
    case a2 => exact halfPrecision hfp16 _ rfl rfl (conditionPassed_always _) rfl rfl
    case t2 =>
      have hc : s.condT32Passes := by
        rw [State.condT32Passes, condT32_of_not_inITBlock hit, conditionPassed_always]
      exact halfPrecision hfp16 _ rfl rfl hc rfl hit

end Sys2Proof.Machine
end

section
/-! The write of the destination (40_vmov_imm_operation.md R125), and an instruction executed again (R128). -/

namespace Sys2Proof.Machine

/-! ### The write of D registers -/

theorem writeDestination_of_gt {k : DecodeConstants} (h : 32 < k.esize) (s : State) :
    writeDestination k s = writeDs k.d k.imm k.regs s :=
  if_neg (by omega)

theorem writeD_comm {n m : Nat} (h : n ≠ m) (v w : DWord) (s : State) :
    writeD n v (writeD m w s) = writeD m w (writeD n v s) := by
  have hsimd : (s.simd.setIfInBounds m w).setIfInBounds n v = (s.simd.setIfInBounds n v).setIfInBounds m w := by
    rw [← Vector.toArray_inj]
    exact Array.setIfInBounds_comm w v h.symm
  simp only [writeD, hsimd]

theorem readQ_of_even {n : Nat} (h : n % 2 = 0) (s : State) : readQ (n / 2) s = readD (n + 1) s ++ readD n s := by
  rw [readQ, Nat.mul_div_cancel' (Nat.dvd_of_mod_eq_zero h)]

/-- The D number of an even quadword destination leaves room for its second register. -/
theorem toNat_le_of_even {d : BitVec 5} (h : d.extractLsb' 0 1 ≠ 0b1#1) : d.toNat ≤ 30 := by
  have hlt : d.toNat < 32 := d.isLt
  have heven : d.toNat % 2 ≠ 1 := by simpa [BitVec.toNat_eq] using h
  omega

/-- The constants of an Advanced SIMD text that is not UNDEFINED (30_encoding.md R90). -/
theorem simdVerdict_ok {cfg : Config} {op q : BitVec 1} {cmode : BitVec 4} {d : BitVec 5} {imm8 : BitVec 8}
    {k : DecodeConstants} (h : simdVerdict cfg op cmode q d imm8 = .ok k) :
    k.esize = 64 ∧ k.regs = (if q = 0b1#1 then 2 else 1) ∧ k.d = d.toNat ∧ k.d + k.regs ≤ 32 := by
  obtain ⟨hd, he, hr⟩ := simdVerdict_constants (congrArg Verdict.constants h)
  have hlt : d.toNat < 32 := d.isLt
  rcases BitVec.eq_zero_or_eq_one q with rfl | rfl
  · refine ⟨he, hr, hd, ?_⟩
    rw [hd, hr]
    exact hlt
  · have heven : d.extractLsb' 0 1 ≠ 0b1#1 := fun hodd => by
      rw [simdVerdict_undefined_iff.2 ⟨rfl, hodd⟩] at h
      cases h
    refine ⟨he, hr, hd, ?_⟩
    rw [hd, hr]
    exact Nat.add_le_add_right (toNat_le_of_even heven) 2

theorem fpConstants_esize_gt_iff (cfg : Config) (size : BitVec 2) (d : BitVec 5) (imm8 : BitVec 8) :
    32 < (fpConstants cfg size d imm8).esize ↔ size = 0b11#2 := by
  rcases bitVec2_cases size with rfl | rfl | rfl | rfl <;> simp [fpConstants]

theorem fpConstants_regs (cfg : Config) (d : BitVec 5) (imm8 : BitVec 8) :
    (fpConstants cfg 0b11#2 d imm8).regs = 1 := rfl

/-- Settles O38: the laws of `writeDs`, and the constants of the two groups of decode texts. -/
theorem doublewordDestinationsAreWritten : Obligations.DoublewordDestinationsAreWritten := by
  refine ⟨fun k s he hd => ?write, fun _ _ _ _ _ _ _ => simdVerdict_ok, fun size d imm8 b s k hv => ?scalar⟩
  case write =>
    have written : ∀ r < k.regs, readD (k.d + r) (writeDestination k s) = k.imm := fun r hr => by
      rw [writeDestination_of_gt he, readD_writeDs_same (by omega) (by omega)]
    refine ⟨written, fun m hm => ?others, writeDestination_with_simd k s s.simd, fun hr => ?one, fun hr => ?two⟩
    case others =>
      rw [writeDestination_of_gt he, readD_writeDs_other]
      rintro ⟨hge, hlt⟩
      exact hm (m - k.d) (by omega) (by omega)
    case one => rw [writeDestination_of_gt he, hr]; rfl
    case two =>
      have rising : writeDestination k s = writeD (k.d + 1) k.imm (writeD k.d k.imm s) := by
        rw [writeDestination_of_gt he, hr]; rfl
      refine ⟨rising, rising.trans (writeD_comm (by omega) ..), fun heven => ?_⟩
      rw [readQ_of_even heven, written 1 (by omega)]
      exact congrArg _ (written 0 (by omega))
  case scalar =>
    obtain ⟨_, rfl⟩ := fpVerdict_constants (congrArg Verdict.constants hv)
    refine ⟨fpConstants_esize_gt_iff .., ?_⟩
    rintro rfl
    exact fpConstants_regs ..

/-! ### A destination written again -/

theorem readD_eq_halves (n : Nat) (s : State) : readD n s = readHalf (2 * n + 1) s ++ readHalf (2 * n) s := by
  have low : 2 * n / 2 = n ∧ 2 * n % 2 = 0 := by omega
  have high : (2 * n + 1) / 2 = n ∧ (2 * n + 1) % 2 = 1 := by omega
  simp only [readHalf, low, high]
  exact ((BitVec.extractLsb'_append_extractLsb'_eq_extractLsb' (start₂ := 32) (len₁ := 32) rfl).trans
    BitVec.extractLsb'_eq_self).symm

theorem simd_eq_of_readHalf {s t : State} (h : ∀ w < 64, readHalf w t = readHalf w s) : t.simd = s.simd := by
  refine Vector.ext fun n hn => ?_
  have hread : readD n t = readD n s := by
    rw [readD_eq_halves, readD_eq_halves, h _ (by omega), h _ (by omega)]
  simpa [readD, Vector.getD, hn] using hread

/-- A destination that holds its constant already is written without a change. -/
theorem writeDestination_eq_self {k : DecodeConstants} {s : State}
    (h : ∀ w < 64, w ∈ destinationHalves k → readHalf w s = destinationWord k w) : writeDestination k s = s := by
  have words : ∀ w < 64, readHalf w (writeDestination k s) = readHalf w s := fun w hw => by
    by_cases hk : w ∈ destinationHalves k
    · rw [readHalf_writeDestination_same hw hk, h w hw hk]
    · exact readHalf_writeDestination_other hk
  calc writeDestination k s = { s with simd := (writeDestination k s).simd } :=
        writeDestination_with_simd k s (writeDestination k s).simd
    _ = s := by rw [simd_eq_of_readHalf words]

theorem writeDestination_again (k : DecodeConstants) (s : State) :
    writeDestination k (advance (writeDestination k s)) = advance (writeDestination k s) :=
  writeDestination_eq_self fun _ hw hk => readHalf_writeDestination_same hw hk

/-! ### The operation repeated on the state it answered -/

theorem execute_again {k : DecodeConstants} {s t : State} (h : execute k s = .next t) :
    execute k t = .next (advance t) := by
  obtain ⟨he, rfl⟩ := execute_next h
  have he' : fpSimdAccess (advance (writeDestination k s)).config (advance (writeDestination k s)).ctl k.advsimd
      = .enabled := by simpa using he
  rw [execute_enabled he', writeDestination_again]

theorem operate_again {cond : BitVec 4} {v : Verdict} {s t : State} (hf : s.config.condFailUndef = false)
    (hv : ∀ k, v ≠ .unpredictable k) (h : operate cond v s = .next t) : operate cond v t = .next (advance t) := by
  obtain ⟨hconfig, _, _, hflags, _, _, _, _, _, _⟩ := (operate_next h).frame
  have failed : ∀ u, conditionFailed u t = .next (advance t) := fun u =>
    conditionFailed_of_not_admitted (.inl (by rw [hconfig, hf]))
  unfold operate at h ⊢
  rw [hflags]
  cases v with
  | unpredictable k => exact absurd rfl (hv k)
  | undefined =>
    cases hc : conditionPassed cond s.flags with
    | true => rw [hc] at h; cases h
    | false => exact failed _
  | ok k =>
    cases hc : conditionPassed cond s.flags with
    | true => rw [hc] at h; exact execute_again h
    | false => exact failed _

theorem fpVerdict_congr {s t : State} (hconfig : t.config = s.config) (hfpscr : t.fpscr = s.fpscr) (size : BitVec 2)
    (d : BitVec 5) (imm8 : BitVec 8) (conditional : Bool) :
    fpVerdict size d imm8 conditional t = fpVerdict size d imm8 conditional s := by
  simp only [fpVerdict, hconfig, hfpscr]

/-- What a decode text reads of the state. -/
theorem verdictOf_congr {s t : State} (hconfig : t.config = s.config) (hfpscr : t.fpscr = s.fpscr)
    (hit : t.itstate = s.itstate) (i : Instr) : verdictOf t i = verdictOf s i := by
  cases i with
  | a2F16 | a2F32 | a2F64 | a2Size00 => exact fpVerdict_congr hconfig hfpscr ..
  | t2F16 | t2F32 | t2F64 | t2Size00 =>
    simp only [verdictOf, hit]
    exact fpVerdict_congr hconfig hfpscr ..
  | _ => simp only [verdictOf, hconfig]

theorem currentCond_congr {s t : State} (hit : t.itstate = s.itstate) (i : Instr) :
    currentCond t i = currentCond s i := by
  cases i <;> simp only [currentCond, hit]

/-- Outside an IT block and in A32 state the advance keeps ITSTATE. -/
theorem itAfter_eq_self {s : State} (h : s.itstate = 0#8 ∨ s.iset = .a32) : itAfter s = s.itstate := by
  cases hi : s.iset with
  | a32 => exact itAfter_of_a32 hi
  | t32 =>
    rcases h with h | h
    · rw [itAfter_of_t32 hi, h]
      rfl
    · rw [hi] at h
      cases h

theorem sbzAccepted_of_exec_next {i : Instr} {s t : State} (h : exec i s = .next t) : s.sbzAccepted (sbzOf i) := by
  by_contra hz
  obtain ⟨hne, hpolicy⟩ := not_or.1 hz
  have hfault : s.config.sbzPolicy = .fault := by
    cases hp : s.config.sbzPolicy with
    | fault => rfl
    | ignore => exact absurd hp hpolicy
  rw [exec_of_sbz_fault hne hfault] at h
  cases h

theorem exec_again {i : Instr} {s t : State} (hf : s.config.condFailUndef = false) (hit : itAfter s = s.itstate)
    (half : conditionalHalf s i = false) (h : exec i s = .next t) : exec i t = .next (advance t) := by
  obtain ⟨hconfig, _, _, _, hfpscr, _, _, _, _, hitAfter⟩ := (exec_next h).frame
  have hz : s.sbzAccepted (sbzOf i) := sbzAccepted_of_exec_next h
  have hz' : t.sbzAccepted (sbzOf i) := by rwa [State.sbzAccepted, hconfig]
  have hit' : t.itstate = s.itstate := hitAfter.trans hit
  rw [exec_of_sbzAccepted hz] at h
  rw [exec_of_sbzAccepted hz', currentCond_congr hit', verdictOf_congr hconfig hfpscr hit']
  exact operate_again hf (verdictOf_ne_unpredictable (.inr half)) h

theorem conditionalHalf_eq_false {i : Instr} {s : State} (h : s.itstate = 0#8 ∨ (s.iset = .a32 ∧ i.iset = .a32))
    (ha2 : ∀ cond d imm8 sbz, i = .a2F16 cond d imm8 sbz → cond = 0b1110#4) : conditionalHalf s i = false := by
  cases i with
  | a2F16 cond d imm8 sbz =>
    obtain rfl := ha2 cond d imm8 sbz rfl
    rfl
  | t2F16 =>
    rcases h with h | ⟨_, h⟩
    · rw [conditionalHalf, h]
      rfl
    · cases h
  | _ => rfl

/-- Settles O34: `exec_again`, and the advance of `t` keeps ITSTATE as that of `s` does. -/
theorem repeatedInstructionChangesOnlyPc : Obligations.RepeatedInstructionChangesOnlyPc := by
  intro i s t hf hplace ha2 ht
  obtain ⟨_, _, hiset, _, _, _, _, _, _, hitAfter⟩ := (exec_next ht).frame
  have keep : itAfter s = s.itstate := itAfter_eq_self (hplace.imp id And.left)
  have hit : t.itstate = s.itstate := hitAfter.trans keep
  have keep' : itAfter t = t.itstate := by rw [itAfter_congr s t hiset hit, keep, hit]
  rw [exec_again hf keep (conditionalHalf_eq_false hplace ha2) ht, advance, keep']

end Sys2Proof.Machine
end

section
/-! The scalar forms run to the end (41_vmov_imm_a32.md R131, R135; 40_vmov_imm_operation.md R121, R124, R125): the write
that each size makes, and the three outcomes of conditional half precision. -/

namespace Sys2Proof.Machine

/-! ### The write of each size -/

/-- Half precision writes the whole S register: sixteen zero bits stand above the expansion. -/
theorem writeDestination_half (cfg : Config) (d : BitVec 5) (imm8 : BitVec 8) (s : State) :
    writeDestination (fpConstants cfg 0b01#2 d imm8) s = writeS d.toNat (0#16 ++ vfpExpand16 cfg imm8) s := by
  have himm : (vfpExpand cfg 16 imm8).setWidth 32 = 0#16 ++ vfpExpand16 cfg imm8 := by
    rw [vfpExpand, if_pos rfl, BitVec.setWidth_setWidth_of_le _ (by decide)]
    exact BitVec.setWidth_eq_append (by decide)
  rw [← himm]
  rfl

theorem writeDestination_single (cfg : Config) (d : BitVec 5) (imm8 : BitVec 8) (s : State) :
    writeDestination (fpConstants cfg 0b10#2 d imm8) s = writeS d.toNat (vfpExpand32 cfg imm8) s := by
  have himm : (vfpExpand cfg 32 imm8).setWidth 32 = vfpExpand32 cfg imm8 := by
    rw [vfpExpand, if_neg (by decide), if_pos rfl, BitVec.setWidth_setWidth_of_le _ (by decide), BitVec.setWidth_eq]
  rw [← himm]
  rfl

theorem writeDestination_double (cfg : Config) (d : BitVec 5) (imm8 : BitVec 8) (s : State) :
    writeDestination (fpConstants cfg 0b11#2 d imm8) s = writeD d.toNat (vfpExpand64 cfg imm8) s :=
  rfl

theorem advance_writeS (n : Nat) (v : Word) (s : State) :
    advance (writeS n v s) = { s with simd := (writeS n v s).simd, pc := s.pc + 4#32, itstate := itAfter s } := by
  unfold writeS
  split <;> rfl

theorem writeS_consumeChoice (n : Nat) (v : Word) (s : State) :
    writeS n v (consumeChoice s) = consumeChoice (writeS n v s) := by
  unfold writeS
  split <;> rfl

/-! ### A scalar form whose condition passes (R131) -/

theorem fpVerdict_ok {size : BitVec 2} {conditional : Bool} {s : State} (hfpscr : s.fpscrZero) (hsize : size ≠ 0b00#2)
    (hhalf : size = 0b01#2 → s.config.haveFP16 = true ∧ conditional = false) (d : BitVec 5) (imm8 : BitVec 8) :
    fpVerdict size d imm8 conditional s = .ok (fpConstants s.config size d imm8) := by
  cases hv : fpVerdict size d imm8 conditional s with
  | undefined =>
    rcases fpVerdict_undefined_iff.1 hv with h | h | ⟨h, hno⟩
    · exact absurd hfpscr h
    · exact absurd h hsize
    · exact absurd ((hhalf h).1.symm.trans hno) Bool.noConfusion
  | unpredictable k =>
    obtain ⟨h, hyes⟩ := fpVerdict_unpredictable hv
    exact absurd (hyes.symm.trans (hhalf h).2) Bool.noConfusion
  | ok k =>
    obtain ⟨_, rfl⟩ := fpVerdict_constants (congrArg Verdict.constants hv)
    rfl

theorem operate_scalar (size : BitVec 2) {cond : BitVec 4} {conditional : Bool} {s : State} (he : s.enabled false)
    (hfpscr : s.fpscrZero) (hc : conditionPassed cond s.flags = true) (hsize : size ≠ 0b00#2)
    (hhalf : size = 0b01#2 → s.config.haveFP16 = true ∧ conditional = false) (d : BitVec 5) (imm8 : BitVec 8) :
    operate cond (fpVerdict size d imm8 conditional s) s =
      .next (advance (writeDestination (fpConstants s.config size d imm8) s)) := by
  rw [fpVerdict_ok hfpscr hsize hhalf, operate_ok hc]
  exact execute_enabled he

/-- Settles O16: each form is `operate_scalar` for its size, and the write is that of the size. -/
theorem a2FormsWriteTheConstant : Obligations.A2FormsWriteTheConstant := by
  intro cond d imm8 sbz s he hfpscr hz single double
  refine ⟨fun hfp => ?half, fun hc => ?single, fun hc => ?double, fun h =>
    ⟨vfpExpand16_adopted h imm8, vfpExpand32_adopted h imm8, vfpExpand64_adopted h imm8⟩⟩
  case half =>
    have run := operate_scalar 0b01#2 he hfpscr (conditionPassed_always s.flags) (by decide) (fun _ => ⟨hfp, rfl⟩) d imm8
    rw [writeDestination_half, advance_writeS] at run
    exact (exec_of_sbzAccepted hz).trans run
  case single =>
    have run := operate_scalar 0b10#2 (conditional := cond != 0b1110#4) he hfpscr hc (by decide) nofun d imm8
    rw [writeDestination_single, advance_writeS] at run
    exact (exec_of_sbzAccepted hz).trans run
  case double =>
    have run := operate_scalar 0b11#2 (conditional := cond != 0b1110#4) he hfpscr hc (by decide) nofun d imm8
    rw [writeDestination_double] at run
    exact (exec_of_sbzAccepted hz).trans run

/-! ### Conditional half precision (R135) -/

theorem fpVerdict_conditionalHalf {s : State} (hfpscr : s.fpscrZero) (hfp : s.config.haveFP16 = true) (d : BitVec 5)
    (imm8 : BitVec 8) : fpVerdict 0b01#2 d imm8 true s = .unpredictable (fpConstants s.config 0b01#2 d imm8) := by
  obtain ⟨hlen, hstride⟩ := hfpscr
  simp [fpVerdict, hlen, hstride, hfp]

theorem constrainedUnpredictable_cases (k : DecodeConstants) (s : State) :
    constrainedUnpredictable k s = .fault .undefined ∨ constrainedUnpredictable k s = nop (consumeChoice s) ∨
      constrainedUnpredictable k s = execute k (consumeChoice s) := by
  unfold constrainedUnpredictable
  cases Config.cuFp16Cond s.choices with
  | undefined => exact .inl rfl
  | nop => exact .inr (.inl rfl)
  | executeUnconditionally => exact .inr (.inr rfl)

theorem advance_writeS_consumeChoice (n : Nat) (v : Word) (s : State) :
    advance (writeS n v (consumeChoice s)) =
      { s with simd := (writeS n v s).simd, pc := s.pc + 4#32, itstate := itAfter s, choices := s.choices + 1 } := by
  rw [advance_writeS, writeS_consumeChoice]
  rfl

/-- The execution of half precision whatever the flags, by the answer of the enable check. -/
theorem execute_half_consumeChoice (d : BitVec 5) (imm8 : BitVec 8) (s : State) :
    execute (fpConstants s.config 0b01#2 d imm8) (consumeChoice s) =
      match fpSimdAccess s.config s.ctl false with
      | .enabled => .next { s with simd := (writeS d.toNat (0#16 ++ vfpExpand16 s.config imm8) s).simd
                                   pc := s.pc + 4#32
                                   itstate := itAfter s
                                   choices := s.choices + 1 }
      | .undefined => .fault .undefined
      | .hypTrap => .fault .hypTrap := by
  obtain ⟨undefined, hypTrap⟩ := execute_stops (fpConstants s.config 0b01#2 d imm8) (consumeChoice s)
  cases ha : fpSimdAccess s.config s.ctl false with
  | enabled =>
    have run : execute (fpConstants s.config 0b01#2 d imm8) (consumeChoice s) = _ := execute_enabled ha
    rw [run, writeDestination_half, advance_writeS_consumeChoice]
  | undefined => exact undefined ha
  | hypTrap => exact hypTrap ha

/-- Settles O23: the text answers `unpredictable` with the flags unread, and the free choice picks one of the three. -/
theorem conditionalHalfPrecisionA2HasThreeOutcomes : Obligations.ConditionalHalfPrecisionA2HasThreeOutcomes := by
  intro cond d imm8 sbz s hcond hfpscr hfp hz t
  have hexec : exec (.a2F16 cond d imm8 sbz) s = constrainedUnpredictable (fpConstants s.config 0b01#2 d imm8) s :=
    calc exec (.a2F16 cond d imm8 sbz) s
      _ = operate cond (fpVerdict 0b01#2 d imm8 (cond != 0b1110#4) s) s := exec_of_sbzAccepted hz
      _ = constrainedUnpredictable _ s := by rw [bne_iff_ne.2 hcond, fpVerdict_conditionalHalf hfpscr hfp]; rfl
  rw [hexec]
  exact (constrainedUnpredictable_cases _ s).imp_right (Or.imp_right fun run =>
    run.trans (execute_half_consumeChoice d imm8 s))

end Sys2Proof.Machine
end

section
/-! The T32 forms against the A32 forms (42_vmov_imm_t32.md R140 to R145): one operation, entered with the condition that
ITSTATE gives. -/

namespace Sys2Proof.Machine

/-! ### The condition counts by whether it passes -/

theorem operate_congr_of_conditionPassed {c c' : BitVec 4} {s : State}
    (h : conditionPassed c s.flags = conditionPassed c' s.flags) (v : Verdict) : operate c v s = operate c' v s := by
  cases v with
  | undefined | ok k => simp only [operate, h]
  | unpredictable k => rfl

/-- Unlike `exec_congr`, this needs no should-be-zero bit accepted: the same bits stop both instructions or neither. -/
theorem exec_congr_of_conditionPassed {i j : Instr} {s : State} (hz : sbzOf i = sbzOf j)
    (hc : conditionPassed (currentCond s i) s.flags = conditionPassed (currentCond s j) s.flags)
    (hv : verdictOf s i = verdictOf s j) : exec i s = exec j s := by
  simp only [exec_eq_operateSbz, hz, hv, operateSbz, operate_congr_of_conditionPassed hc]

theorem condT32Passes_of_not_inITBlock {s : State} (h : inITBlock s.itstate = false) : s.condT32Passes := by
  rw [State.condT32Passes, condT32_of_not_inITBlock h, conditionPassed_always]

/-- The third line of the text of A2 and T2, in which alone they differ, is about half precision only. -/
theorem fpVerdict_congr_of_not_half {size : BitVec 2} (h : size ≠ 0b01#2) (d : BitVec 5) (imm8 : BitVec 8) (b b' : Bool)
    (s : State) : fpVerdict size d imm8 b s = fpVerdict size d imm8 b' s := by
  simp only [fpVerdict, h, false_and, if_false]

/-- Settles O35: a form and its counterpart have the same should-be-zero bits and the same verdict, and conditions that
pass alike. -/
theorem t32FormsEqualA32FormsButForTheCondition : Obligations.T32FormsEqualA32FormsButForTheCondition := by
  intro c2 c1 d imm8 sbz s
  refine ⟨fun hc => ?vector, ?single, ?double, ?size00, fun hit => ?half⟩
  case vector =>
    have same : ∀ {i j}, sbzOf i = sbzOf j → currentCond s i = condT32 s.itstate → currentCond s j = condAlways →
        verdictOf s i = verdictOf s j → exec i s = exec j s := fun hz hi hj hv =>
      exec_congr_of_conditionPassed hz (by rw [hi, hj, hc, conditionPassed_always]) hv
    exact ⟨same rfl rfl rfl rfl, same rfl rfl rfl rfl, same rfl rfl rfl rfl, same rfl rfl rfl rfl,
      same rfl rfl rfl rfl, same rfl rfl rfl rfl, same rfl rfl rfl rfl, same rfl rfl rfl rfl,
      same rfl rfl rfl rfl, same rfl rfl rfl rfl, same rfl rfl rfl rfl, same rfl rfl rfl rfl⟩
  case single | double | size00 =>
    exact exec_congr_of_conditionPassed rfl rfl (fpVerdict_congr_of_not_half (by decide) d imm8 _ _ s)
  case half =>
    have unconditional : inITBlock s.itstate = (condT32 s.itstate != 0b1110#4) := by
      rw [hit, condT32_of_not_inITBlock hit]
      rfl
    exact exec_congr_of_conditionPassed rfl rfl (congrArg (fpVerdict 0b01#2 d imm8 · s) unconditional)

/-! ### T2 to the end (R141) -/

/-- A2 and T2 alike: what is left of the instruction, once it is known to complete, is the write of its size. -/
theorem exec_scalar (size : BitVec 2) (i : Instr) {conditional : Bool} {d : BitVec 5} {imm8 : BitVec 8} {s : State}
    (hv : verdictOf s i = fpVerdict size d imm8 conditional s) (hz : s.sbzAccepted (sbzOf i)) (he : s.enabled false)
    (hfpscr : s.fpscrZero) (hc : conditionPassed (currentCond s i) s.flags = true) (hsize : size ≠ 0b00#2)
    (hhalf : size = 0b01#2 → s.config.haveFP16 = true ∧ conditional = false) :
    exec i s = .next (advance (writeDestination (fpConstants s.config size d imm8) s)) := by
  rw [exec_of_sbzAccepted hz, hv, operate_scalar size he hfpscr hc hsize hhalf]

/-- Settles O17: each form is `exec_scalar` for its size, and the write is that of the size. -/
theorem t2FormsWriteTheConstant : Obligations.T2FormsWriteTheConstant := by
  intro d imm8 sbz s he hfpscr hz single double
  refine ⟨fun hfp hit => ?half, fun hc => ?single, fun hc => ?double, fun h =>
    ⟨vfpExpand16_adopted h imm8, vfpExpand32_adopted h imm8, vfpExpand64_adopted h imm8⟩⟩
  case half =>
    rw [exec_scalar 0b01#2 (.t2F16 d imm8 sbz) rfl hz he hfpscr (condT32Passes_of_not_inITBlock hit) (by decide)
      (fun _ => ⟨hfp, hit⟩), writeDestination_half, advance_writeS]
  case single =>
    rw [exec_scalar 0b10#2 (.t2F32 d imm8 sbz) rfl hz he hfpscr hc (by decide) nofun, writeDestination_single,
      advance_writeS]
  case double =>
    rw [exec_scalar 0b11#2 (.t2F64 d imm8 sbz) rfl hz he hfpscr hc (by decide) nofun, writeDestination_double]
    rfl

/-! ### T2 half precision in an IT block (R145) -/

theorem exec_of_unpredictable {i : Instr} {s : State} {k : DecodeConstants} (hz : s.sbzAccepted (sbzOf i))
    (hv : verdictOf s i = .unpredictable k) : exec i s = constrainedUnpredictable k s := by
  rw [exec_of_sbzAccepted hz, hv]
  rfl

/-- Settles O24: in an IT block the text answers `unpredictable`, as that of A2 does with a condition, and the free choice
picks one of the three. -/
theorem halfPrecisionInItBlockHasThreeOutcomes : Obligations.HalfPrecisionInItBlockHasThreeOutcomes := by
  intro d imm8 sbz s hit hfpscr hfp hz t
  have hv : verdictOf s (.t2F16 d imm8 sbz) = .unpredictable (fpConstants s.config 0b01#2 d imm8) := by
    rw [verdictOf, hit, fpVerdict_conditionalHalf hfpscr hfp]
  rw [exec_of_unpredictable hz hv]
  exact (constrainedUnpredictable_cases _ s).imp_right (Or.imp_right fun run =>
    run.trans (execute_half_consumeChoice d imm8 s))

end Sys2Proof.Machine
end

section
/-! Why an instruction stops (60_exceptions.md R152): no operation refuses, and each fault of an operation has its
cause. -/

namespace Sys2Proof.Machine

/-! ### No operation refuses -/

theorem execute_ne_refused (k : DecodeConstants) (s : State) (r : Refusal) : execute k s ≠ .refused r := by
  unfold execute
  split <;> exact nofun

theorem conditionFailed_ne_refused (u : Bool) (s : State) (r : Refusal) : conditionFailed u s ≠ .refused r := by
  unfold conditionFailed
  split
  · split <;> exact nofun
  · exact nofun

theorem constrainedUnpredictable_ne_refused (k : DecodeConstants) (s : State) (r : Refusal) :
    constrainedUnpredictable k s ≠ .refused r := by
  rcases constrainedUnpredictable_cases k s with h | h | h <;> rw [h]
  · exact nofun
  · exact nofun
  · exact execute_ne_refused k _ r

theorem operate_ne_refused (cond : BitVec 4) (v : Verdict) (s : State) (r : Refusal) : operate cond v s ≠ .refused r := by
  unfold operate
  split
  · exact constrainedUnpredictable_ne_refused _ s r
  · split
    · exact nofun
    · exact conditionFailed_ne_refused _ s r
  · split
    · exact execute_ne_refused _ s r
    · exact conditionFailed_ne_refused _ s r

theorem exec_ne_refused (i : Instr) (s : State) (r : Refusal) : exec i s ≠ .refused r := by
  rw [exec_eq_operateSbz, operateSbz]
  split
  · exact nofun
  · exact operate_ne_refused _ _ s r

/-! ### The cause of each fault -/

/-- The causes of `Fault Undefined` (60_exceptions.md R152, causes 1 to 6): the decode text, a permitted choice of a
conditional half-precision form, and the enable check. -/
def UndefinedCause (s : State) (i : Instr) : Prop :=
  TextUndefined s i ∨ conditionalHalf s i = true ∨ fpSimdAccess s.config s.ctl (advsimdOf i) = .undefined

theorem advsimd_of_verdictOf_unpredictable {s : State} {i : Instr} {k : DecodeConstants}
    (h : verdictOf s i = .unpredictable k) : k.advsimd = advsimdOf i := by
  have half : conditionalHalf s i = true := conditionalHalf_of_verdictOf h
  cases i with
  | a2F16 | t2F16 =>
    have hk : (verdictOf s _).constants = some k := congrArg Verdict.constants h
    obtain ⟨_, rfl⟩ := fpVerdict_constants hk
    rfl
  | _ => cases half

/-- Steps 3 to 6 of R121 for the whole instruction: what faults them, by the verdict of the decode text. -/
theorem operate_verdictOf_fault {i : Instr} {s : State} {f : Fault}
    (h : operate (currentCond s i) (verdictOf s i) s = .fault f) :
    (f = .hypTrap ∧ fpSimdAccess s.config s.ctl (advsimdOf i) = .hypTrap) ∨ (f = .undefined ∧ UndefinedCause s i) := by
  cases hv : verdictOf s i with
  | undefined =>
    have text : UndefinedCause s i := .inl ((verdictOf_undefined_iff s i).1 hv)
    rw [hv, operate] at h
    split at h
    · cases h
      exact .inr ⟨rfl, text⟩
    · exact .inr ⟨(conditionFailed_fault h).1, text⟩
  | unpredictable k =>
    rw [hv, operate] at h
    rw [← advsimd_of_verdictOf_unpredictable hv]
    rcases constrainedUnpredictable_fault h with hf | trapped
    · exact .inr ⟨hf, .inr (.inl (conditionalHalf_of_verdictOf hv))⟩
    · exact .inl trapped
  | ok k =>
    have disabled : fpSimdAccess s.config s.ctl k.advsimd = .undefined → UndefinedCause s i := fun ha =>
      .inr (.inr (advsimd_of_verdictOf hv ▸ ha))
    rw [hv, operate] at h
    rw [← advsimd_of_verdictOf hv]
    split at h
    · rcases execute_fault h with ⟨hf, ha⟩ | trapped
      · exact .inr ⟨hf, disabled ha⟩
      · exact .inl trapped
    · obtain ⟨hf, _, ha⟩ := conditionFailed_fault h
      exact .inr ⟨hf, disabled (beq_iff_eq.1 ha)⟩

theorem exec_fault_cause {i : Instr} {s : State} {f : Fault} (h : exec i s = .fault f) :
    (f = .hypTrap ∧ fpSimdAccess s.config s.ctl (advsimdOf i) = .hypTrap) ∨
      (f = .unpredictable ∧ sbzOf i ≠ 0#2 ∧ s.config.sbzPolicy = .fault) ∨ (f = .undefined ∧ UndefinedCause s i) := by
  rw [exec_eq_operateSbz, operateSbz] at h
  split at h
  · next hz =>
    cases h
    exact .inr (.inl ⟨rfl, hz⟩)
  · exact (operate_verdictOf_fault h).imp_right .inr

/-- Settles O28: `UndefinedCause`, with the tests of the text written out, is the list. -/
theorem everyStopHasItsCause : Obligations.EveryStopHasItsCause := by
  intro i s
  refine ⟨exec_ne_refused i s, fun f h => (exec_fault_cause h).imp_right (.imp_right (.imp_right ?list))⟩
  case list =>
    rintro ((odd | short | size00 | noFp16) | half | disabled)
    · exact .inl odd
    · exact .inr (.inl short)
    · exact .inr (.inr (.inl size00))
    · exact .inr (.inr (.inr (.inl noFp16)))
    · exact .inr (.inr (.inr (.inr (.inl half))))
    · exact .inr (.inr (.inr (.inr (.inr disabled))))

end Sys2Proof.Machine
end

section
/-! The outline of the enable check by cases (60_exceptions.md R153; PRESUMED, log 2). -/

namespace Sys2Proof.Machine

/-! ### The fields that NSACR overrides -/

/-- `asedis` of R153 is 1. -/
def AsedisSet (el3 : Bool) (ctl : ControlState) : Prop :=
  ctl.cpacr.asedis = 1#1 ∨ (el3 = true ∧ ctl.security = .nonsecure ∧ ctl.nsacr.nsasedis = 1#1)

/-- `cp10` of R153 is '00' by NSACR. -/
def NsacrCloses (el3 : Bool) (ctl : ControlState) : Prop :=
  el3 = true ∧ ctl.security = .nonsecure ∧ ctl.nsacr.cp10 = 0#1

theorem nsacrApplies_iff {el3 : Bool} {ctl : ControlState} :
    nsacrApplies el3 ctl = true ↔ el3 = true ∧ ctl.security = .nonsecure := by
  rw [nsacrApplies, Bool.and_eq_true, beq_iff_eq]

theorem effectiveAsedis_eq_one_iff {el3 : Bool} {ctl : ControlState} :
    effectiveAsedis el3 ctl = 1#1 ↔ AsedisSet el3 ctl := by
  simp only [effectiveAsedis, nsacrApplies_iff, and_assoc, AsedisSet]
  split
  · next forced => exact iff_of_true rfl (.inr forced)
  · next forced => exact (or_iff_left forced).symm

theorem effectiveCp10_of_closed {el3 : Bool} {ctl : ControlState} (h : NsacrCloses el3 ctl) :
    effectiveCp10 el3 ctl = 0b00#2 := by
  obtain ⟨hel3, ns, clear⟩ := h
  exact if_pos ⟨nsacrApplies_iff.2 ⟨hel3, ns⟩, clear⟩

theorem effectiveCp10_of_not_closed {el3 : Bool} {ctl : ControlState} (h : ¬ NsacrCloses el3 ctl) :
    effectiveCp10 el3 ctl = ctl.cpacr.cp10 := by
  exact if_neg fun applies => h (and_assoc.1 (applies.imp_left nsacrApplies_iff.1))

/-! ### The CPACR part -/

theorem cp10Permits_eq_false {cp10 : BitVec 2} {ctl : ControlState} (advsimd : Bool)
    (h : cp10 = 0b00#2 ∨ (cp10 = 0b01#2 ∧ ctl.mode = .user)) : cp10Permits cp10 ctl advsimd = false := by
  rcases h with rfl | ⟨rfl, user⟩
  · rfl
  · rw [cp10Permits, user]
    rfl

theorem cp10Permits_eq_true {cp10 : BitVec 2} {ctl : ControlState} (advsimd : Bool) (h00 : cp10 ≠ 0b00#2)
    (h01 : ¬ (cp10 = 0b01#2 ∧ ctl.mode = .user)) (h10 : cp10 ≠ 0b10#2) : cp10Permits cp10 ctl advsimd = true := by
  rw [cp10Permits, if_neg h00, if_neg h10]
  split
  · next one => exact bne_iff_ne.2 fun user => h01 ⟨one, user⟩
  · rfl

/-- CPACR, with the overrides of NSACR, denies the access: the value '10' of CPACR.cp10 aside, which is free (log 3). -/
def DeniedByCpacr (el3 : Bool) (ctl : ControlState) (advsimd : Bool) : Prop :=
  ctl.mode ≠ .hyp ∧ ((advsimd = true ∧ AsedisSet el3 ctl) ∨ NsacrCloses el3 ctl ∨ ctl.cpacr.cp10 = 0b00#2 ∨
    (ctl.cpacr.cp10 = 0b01#2 ∧ ctl.mode = .user))

theorem cpacrPermits_outside_hyp {el3 : Bool} {ctl : ControlState} {advsimd : Bool} (h : ctl.mode ≠ .hyp) :
    cpacrPermits el3 ctl advsimd = true ↔
      ¬ (advsimd = true ∧ AsedisSet el3 ctl) ∧ cp10Permits (effectiveCp10 el3 ctl) ctl advsimd = true := by
  rw [cpacrPermits, if_neg h, ← effectiveAsedis_eq_one_iff]
  split
  · next simd => exact iff_of_false nofun fun permits => permits.1 simd
  · next simd => exact (and_iff_right simd).symm

theorem cpacrPermits_of_denied {el3 : Bool} {ctl : ControlState} {advsimd : Bool} (h : DeniedByCpacr el3 ctl advsimd) :
    cpacrPermits el3 ctl advsimd = false := by
  obtain ⟨outsideHyp, cause⟩ := h
  refine Bool.eq_false_iff.2 fun permits => ?_
  obtain ⟨simd, permits⟩ := (cpacrPermits_outside_hyp outsideHyp).1 permits
  refine Bool.eq_false_iff.1 (cp10Permits_eq_false advsimd ?_) permits
  by_cases closed : NsacrCloses el3 ctl
  · exact .inl (effectiveCp10_of_closed closed)
  · rw [effectiveCp10_of_not_closed closed]
    exact (cause.resolve_left simd).resolve_left closed

theorem cpacrPermits_of_not_denied {el3 : Bool} {ctl : ControlState} {advsimd : Bool}
    (h : ¬ DeniedByCpacr el3 ctl advsimd) (reserved : ¬ (ctl.mode ≠ .hyp ∧ ctl.cpacr.cp10 = 0b10#2)) :
    cpacrPermits el3 ctl advsimd = true := by
  by_cases hyp : ctl.mode = .hyp
  · exact if_pos hyp
  · have noCause := not_and.1 h hyp
    simp only [not_or] at noCause
    obtain ⟨simd, closed, h00, h01⟩ := noCause
    rw [cpacrPermits_outside_hyp hyp, effectiveCp10_of_not_closed closed]
    exact ⟨simd, cp10Permits_eq_true advsimd h00 h01 fun h10 => reserved ⟨hyp, h10⟩⟩

/-! ### The HCPTR part -/

/-- HCPTR traps the access, or NSACR through it. -/
def TrappedByHcptr (el3 el2 : Bool) (ctl : ControlState) (advsimd : Bool) : Prop :=
  el2 = true ∧ ctl.security = .nonsecure ∧
    ((advsimd = true ∧ (ctl.hcptr.tase = 1#1 ∨ (el3 = true ∧ ctl.nsacr.nsasedis = 1#1))) ∨
      ctl.hcptr.tcp10 = 1#1 ∨ (el3 = true ∧ ctl.nsacr.cp10 = 0#1))

theorem hcptrTraps_iff {el3 el2 : Bool} {ctl : ControlState} {advsimd : Bool} :
    hcptrTraps el3 el2 ctl advsimd = true ↔ TrappedByHcptr el3 el2 ctl advsimd := by
  simp only [hcptrTraps, TrappedByHcptr, Bool.and_eq_true, Bool.or_eq_true, beq_iff_eq, and_assoc]

/-! ### The answer -/

theorem accessOutline_of_not_permitted {el3 : Bool} (el2 : Bool) {ctl : ControlState} {advsimd : Bool}
    (h : cpacrPermits el3 ctl advsimd = false) : accessOutline el3 el2 ctl advsimd = .undefined :=
  if_pos h

theorem accessOutline_of_fpexc_clear (el3 el2 : Bool) {ctl : ControlState} (advsimd : Bool) (h : ctl.fpexc.en = 0#1) :
    accessOutline el3 el2 ctl advsimd = .undefined := by
  rw [accessOutline, if_pos h, ite_self]

/-- What HCPTR makes of an access that CPACR and FPEXC let through. -/
theorem accessOutline_of_permitted {el3 : Bool} (el2 : Bool) {ctl : ControlState} {advsimd : Bool}
    (h : cpacrPermits el3 ctl advsimd = true) (en : ctl.fpexc.en = 1#1) :
    accessOutline el3 el2 ctl advsimd =
      if hcptrTraps el3 el2 ctl advsimd = true then (if ctl.mode = .hyp then .undefined else .hypTrap) else .enabled := by
  rw [accessOutline, h, en]
  rfl

/-- Settles O42: the first two clauses are the stops of CPACR and FPEXC, the others what HCPTR makes of the rest. -/
theorem outlineOfTheEnableCheck : Obligations.OutlineOfTheEnableCheck := by
  intro el3 el2 ctl advsimd ns asedis closed denied reserved trapped answer
  have passed (hd : ¬ denied) (hr : ¬ reserved) (en : ctl.fpexc.en = 1#1) : answer = _ :=
    accessOutline_of_permitted el2 (cpacrPermits_of_not_denied hd hr) en
  refine ⟨fun hd => accessOutline_of_not_permitted el2 (cpacrPermits_of_denied hd),
    accessOutline_of_fpexc_clear el3 el2 advsimd, fun hd hr en untrapped => ?enabled, fun hd hr en traps hyp => ?inHyp,
    fun hd hr en traps outsideHyp => ?outsideHyp⟩
  case enabled => rw [passed hd hr en, if_neg (mt hcptrTraps_iff.1 untrapped)]
  case inHyp => rw [passed hd hr en, if_pos (hcptrTraps_iff.2 traps), if_pos hyp]
  case outsideHyp => rw [passed hd hr en, if_pos (hcptrTraps_iff.2 traps), if_neg outsideHyp]

theorem accessOutline_hypTrap {el3 el2 : Bool} {ctl : ControlState} {advsimd : Bool}
    (h : accessOutline el3 el2 ctl advsimd = .hypTrap) :
    ctl.mode ≠ .hyp ∧ ctl.fpexc.en = 1#1 ∧ TrappedByHcptr el3 el2 ctl advsimd := by
  cases permits : cpacrPermits el3 ctl advsimd with
  | false => cases (accessOutline_of_not_permitted el2 permits).symm.trans h
  | true =>
    rcases BitVec.eq_zero_or_eq_one ctl.fpexc.en with en | en
    · cases (accessOutline_of_fpexc_clear el3 el2 advsimd en).symm.trans h
    · rw [accessOutline_of_permitted el2 permits en] at h
      split at h
      · next traps =>
        refine ⟨fun hyp => ?_, en, hcptrTraps_iff.1 traps⟩
        cases (if_pos hyp).symm.trans h
      · cases h

/-- Settles O43: `HypTrap` has one cause, the answer of the enable check, and the outline gives it in one place. -/
theorem hypTrapNeedsNonsecureStateOutsideHypMode : Obligations.HypTrapNeedsNonsecureStateOutsideHypMode := by
  intro i s el3 el2 outline trap
  have answer : fpSimdAccess s.config s.ctl (advsimdOf i) = .hypTrap := by
    rcases exec_fault_cause trap with ⟨_, h⟩ | ⟨h, _⟩ | ⟨h, _⟩
    · exact h
    · cases h
    · cases h
  rw [fpSimdAccess, outline] at answer
  obtain ⟨outsideHyp, en, hel2, ns, cause⟩ := accessOutline_hypTrap answer
  exact ⟨hel2, ns, outsideHyp, en, cause⟩

end Sys2Proof.Machine
end

section
/-! The enable check in the start state (70_reset_and_hazards.md R176; the values are the model's, logs 7 and 8). -/

namespace Sys2Proof.Machine

theorem fpSimdAccess_of_given {cfg : Config} {simd fp : Access} (ctl : ControlState) (advsimd : Bool)
    (h : cfg.access = .given simd fp) : fpSimdAccess cfg ctl advsimd = if advsimd = true then simd else fp := by
  rw [fpSimdAccess, h]

/-- Settles O50: FPEXC.EN is clear, which alone stops the outline; the given instance does not look at the control state. -/
theorem outlineDisablesTheUnitInTheResetControlState : Obligations.OutlineDisablesTheUnitInTheResetControlState := by
  refine ⟨fun el3 el2 advsimd => ?outline, fun advsimd => ?given⟩
  case outline => exact accessOutline_of_fpexc_clear el3 el2 advsimd rfl
  case given => exact (fpSimdAccess_of_given _ advsimd rfl).trans (ite_self _)

end Sys2Proof.Machine
end

section
/-! Words written out from the encodings (95_test_vectors.md section 2): each is the encoder's word for its instruction. -/

namespace Sys2Proof

theorem decodeWord_of_encode_eq {t : ISet} {w : Word} {i : Instr} (hwf : i.wellFormed = true) (hset : i.iset = t)
    (henc : encode i = w) : decodeWord t w = .ok i := by
  subst hset henc
  exact decodeWord_encode hwf

/-- Settles O7: the encoder gives each of the ten words, and what it writes the decoder reads back. -/
theorem sampleWordsDecode : Obligations.SampleWordsDecode := by
  unfold Obligations.SampleWordsDecode
  and_intros <;> exact decodeWord_of_encode_eq rfl rfl rfl

end Sys2Proof
end
